-- ==== Sys2Proof/Word.lean ====
section
/-! DEFINITION. The widths the spec uses: bytes, command words, data words, and the 32-byte frame. -/

namespace Sys2Proof

/-- A byte: 8 bits, bit 0 the least significant (00_scope.md section 5.1). -/
abbrev Byte := BitVec 8

/-- A command word `cmd` (30_encoding.md R71). -/
abbrev Word16 := BitVec 16

/-- A data word: `wdata`, `rdata`, and the two frequency registers (30_encoding.md R70). -/
abbrev Word32 := BitVec 32

/-- A beacon frame: exactly 32 bytes, the byte at offset `i` at index `i` (30_encoding.md R60, R62). -/
abbrev Frame := Vector Byte 32

end Sys2Proof
end

