-- ==== Sys2Proof/Syntax.lean ====
section
/-! DEFINITION. What a host can say to the block: register names, the six commands, requests, and the
assembler lines and pseudo-instructions of 30_encoding.md R79 and R80. -/

namespace Sys2Proof

/-- The 92 registers of the register map (10_state.md R30), by the spec's names. -/
inductive Reg where
  | seqIn | rssiIn | bwIn | sfIn | crIn | tlenIn | freqIn
  | hwaddrCfg (i : Fin 6)
  | status
  | textIn (i : Fin 16)
  | frame (i : Fin 32)
  | rssiUpOut | rssiDnOut | seqOut | bwOut | sfOut | crOut | tlenOut | freqOut
  | hwaddrOut (i : Fin 6)
  | textOut (i : Fin 16)
  deriving DecidableEq, Repr

/-- The host's right on a register (10_state.md R30, column "access"). -/
inductive Access where
  | rw
  | ro
  deriving DecidableEq, Repr

/-- The six commands (30_encoding.md R70), one constructor per row of spec/opcode_table.json. The data
operand of WR is part of the command (log 9); for every other command `wdata` is ignored (R73). -/
inductive Instr where
  | nop
  | build
  | decode
  | clrerr
  | rd (r : Byte)
  | wr (r : Byte) (v : Word32)
  deriving DecidableEq, Repr

/-- One request `(cmd, wdata)` (30_encoding.md R70). -/
structure Request where
  cmd : Word16
  wdata : Word32
  deriving DecidableEq, Repr

/-- `<reg>` of an assembler line: a name or a numeric index (30_encoding.md R79). -/
inductive AsmReg where
  | named (r : Reg)
  | index (n : Nat)
  deriving DecidableEq, Repr

/-- `<value>` of an assembler line (30_encoding.md R79). -/
inductive AsmValue where
  /-- A number of up to 32 bits. -/
  | num (n : Nat)
  /-- `-n`, standing for its 32-bit two's complement. -/
  | neg (n : Nat)
  /-- A character in single quotes, standing for its ASCII code. -/
  | char (c : Char)
  /-- `f32(d)` for the decimal `d` of absolute value `digits / 10 ^ decimals`. -/
  | f32 (negative : Bool) (digits decimals : Nat)
  deriving DecidableEq, Repr

/-- One assembler line (30_encoding.md R79) or pseudo-instruction (R80). -/
inductive AsmLine where
  | nop
  | build
  | decode
  | clrerr
  | rd (r : AsmReg)
  | wr (r : AsmReg) (v : AsmValue)
  | ldtext (text : List Byte)
  | ldradio (f bw sf cr rssi : AsmValue)
  | ldframe (bytes : List Nat)
  | rdframe
  | beacon (s : AsmValue)
  deriving DecidableEq, Repr

end Sys2Proof
end

