-- ==== Sys2Proof/WellFormed.lean ====
section
/-! DEFINITION. Which terms of the syntax stand for something the spec can encode. -/

namespace Sys2Proof

/-- The encoding admits every value of every field of a command: `reg` is any of 0 to 255 (30_encoding.md
R75: RD and WR "decode for every `reg`") and `wdata` any 32 bits (R73), and the field types hold exactly
those values. So no command is ill-formed; whether an index is implemented is checked when the command
executes. -/
def Instr.wellFormed : Instr → Bool
  | .nop => true
  | .build => true
  | .decode => true
  | .clrerr => true
  | .rd _ => true
  | .wr _ _ => true

/-- A numeric register operand is an 8-bit index (30_encoding.md R71, R79). -/
def AsmReg.wellFormed : AsmReg → Bool
  | .named _ => true
  | .index n => decide (n < 256)

/-- A value is a number of up to 32 bits; a negative one lies in the range of 32-bit two's complement; a
character has an ASCII code (30_encoding.md R79; the last two limits are log 11). -/
def AsmValue.wellFormed : AsmValue → Bool
  | .num n => decide (n < 2 ^ 32)
  | .neg n => decide (n ≤ 2 ^ 31)
  | .char c => decide (c.toNat < 128)
  | .f32 _ _ _ => true

/-- Each operand well-formed; `LDTEXT` takes 0 to 255 bytes and `LDFRAME` exactly 32 byte values
(30_encoding.md R80). -/
def AsmLine.wellFormed : AsmLine → Bool
  | .nop => true
  | .build => true
  | .decode => true
  | .clrerr => true
  | .rd r => r.wellFormed
  | .wr r v => r.wellFormed && v.wellFormed
  | .ldtext text => decide (text.length ≤ 255)
  | .ldradio f bw sf cr rssi =>
    f.wellFormed && bw.wellFormed && sf.wellFormed && cr.wellFormed && rssi.wellFormed
  | .ldframe bytes => decide (bytes.length = 32) && bytes.all fun b => decide (b < 256)
  | .rdframe => true
  | .beacon s => s.wellFormed

end Sys2Proof
end

