-- ==== Sys2Proof/Decode.lean ====
section
/-! DEFINITION. Command words: the opcode map, the decoder and the encoder (30_encoding.md part B). -/

namespace Sys2Proof

/-- One row of the opcode map (30_encoding.md R72): a word `w` selects it when `w & mask = pattern`. -/
structure OpcodeRow where
  mnemonic : String
  pattern : Word16
  mask : Word16
  deriving DecidableEq, Repr

/-- The opcode map (30_encoding.md R72). -/
def opcodeTable : List OpcodeRow :=
  [⟨"NOP", 0x0000#16, 0xFFFF#16⟩, ⟨"BUILD", 0x0100#16, 0xFFFF#16⟩, ⟨"DECODE", 0x0200#16, 0xFFFF#16⟩,
   ⟨"CLRERR", 0x0300#16, 0xFFFF#16⟩, ⟨"RD", 0x1000#16, 0xFF00#16⟩, ⟨"WR", 0x1100#16, 0xFF00#16⟩]

/-- `w` selects the row (30_encoding.md R72). -/
def OpcodeRow.selectedBy (row : OpcodeRow) (w : Word16) : Bool := w &&& row.mask == row.pattern

/-- The mnemonic of a command, as the opcode map spells it. -/
def Instr.mnemonic : Instr → String
  | .nop => "NOP"
  | .build => "BUILD"
  | .decode => "DECODE"
  | .clrerr => "CLRERR"
  | .rd _ => "RD"
  | .wr _ _ => "WR"

/-- Why a word is reserved (30_encoding.md R76). Both kinds raise the one error IllegalCommand. -/
inductive ReservedWord where
  /-- `op` is 0x04 to 0x0F or 0x12 to 0xFF. -/
  | opcode (op : Byte)
  /-- `op` is 0x00 to 0x03 and `reg` is not 0x00. -/
  | registerNotZero (op reg : Byte)
  deriving DecidableEq, Repr

/-- `op = cmd[15:8]` (30_encoding.md R71). -/
def opField (w : Word16) : Byte := w.extractLsb' 8 8

/-- `reg = cmd[7:0]` (30_encoding.md R71). -/
def regField (w : Word16) : Byte := w.extractLsb' 0 8

/-- `decode_cmd` (30_encoding.md R75), with the data operand taken in for WR (R73). Total: every request
gives one command or the reason why its word is reserved. -/
def decode (q : Request) : Except ReservedWord Instr :=
  let op := opField q.cmd
  let reg := regField q.cmd
  if op = 0x10#8 then .ok (.rd reg)
  else if op = 0x11#8 then .ok (.wr reg q.wdata)
  else if op = 0x00#8 then if reg = 0x00#8 then .ok .nop else .error (.registerNotZero op reg)
  else if op = 0x01#8 then if reg = 0x00#8 then .ok .build else .error (.registerNotZero op reg)
  else if op = 0x02#8 then if reg = 0x00#8 then .ok .decode else .error (.registerNotZero op reg)
  else if op = 0x03#8 then if reg = 0x00#8 then .ok .clrerr else .error (.registerNotZero op reg)
  else .error (.opcode op)

/-- The request of a command (30_encoding.md R72, R79): `wdata` is the value of WR and 0 otherwise. -/
def encode : Instr → Request
  | .nop => ⟨0x0000#16, 0#32⟩
  | .build => ⟨0x0100#16, 0#32⟩
  | .decode => ⟨0x0200#16, 0#32⟩
  | .clrerr => ⟨0x0300#16, 0#32⟩
  | .rd r => ⟨0x10#8 ++ r, 0#32⟩
  | .wr r v => ⟨0x11#8 ++ r, v⟩

/-- The request whose bits are the low `nbits` bits of `w`: `cmd` is bits 15 to 0 and `wdata` the 32 bits
above them, all bits from `nbits` up being 0 (log 9). -/
def requestOfTableWord (nbits w : Nat) : Request :=
  let bits := w % 2 ^ nbits
  ⟨BitVec.ofNat 16 bits, BitVec.ofNat 32 (bits / 2 ^ 16)⟩

/-- The command the decoder reads from an instruction whose bits are `w`, numbered as
spec/opcode_table.json numbers them. -/
def decodeTableWord (nbits w : Nat) : Option Instr := (decode (requestOfTableWord nbits w)).toOption

end Sys2Proof
end

