-- ==== Sys2Proof/Config.lean ====
section
/-! DEFINITION. The block's two parameters (00_scope.md R3, R4): fixed at instantiation, changed by no step. -/

namespace Sys2Proof

/-- The two legal values of `BYTE_ORDER` (00_scope.md R4). -/
inductive ByteOrder where
  /-- Least significant byte at the lowest frame offset. -/
  | le
  /-- Most significant byte at the lowest frame offset. -/
  | be
  deriving DecidableEq, Repr

/-- The parameters of one instance of the block (00_scope.md R3, R4). -/
structure Params where
  /-- `HW_ADDR[0]` to `HW_ADDR[5]`. -/
  hwAddr : Vector Byte 6
  /-- `BYTE_ORDER`. -/
  byteOrder : ByteOrder
  deriving DecidableEq, Repr

/-- `HW_ADDR` (00_scope.md R3): the spec gives no value, so this constant has no body and a claim about
it holds for every six bytes. DESIGN CHOICE (log 4), safe. -/
opaque Config.hwAddr : Vector Byte 6

end Sys2Proof
end

