-- ==== Sys2Proof/Machine/State.lean ====
section
/-! DEFINITION. The state of the block (10_state.md R29), the host's side of the interface, and reset. -/

namespace Sys2Proof.Machine

open Sys2Proof

/-- One response `(status, rdata)` (30_encoding.md R70, R74). -/
structure Response where
  status : Byte
  rdata : Word32
  deriving DecidableEq, Repr

/-- One move of the host (70_reset_and_hazards.md R155): a request, or the reset event (R150). -/
inductive HostInput where
  | request (q : Request)
  | reset
  deriving DecidableEq, Repr

/-- Why a machine stops with a fault: never. "The block has no state from which it cannot proceed and no
request it will not answer" (60_exceptions.md R141), so there is no constructor (log 8, safe). -/
inductive Fault where
  deriving DecidableEq, Repr

/-- Why a command has no meaning. -/
inductive Refusal where
  /-- Raised by an arm of `exec` whose command has no meaning yet; no arm is so today. Safe. -/
  | notModelled (mnemonic : String)
  deriving DecidableEq, Repr

/-- The state of the block, every item of 10_state.md R29, and the two ends of its request and response
interface (`inputs`, `response`), which are the model's own (log 1, log 2). -/
structure State where
  /-- `SEQ_IN` (10_state.md R11). -/
  seqIn : Byte
  /-- `RSSI_IN` (10_state.md R12). -/
  rssiIn : Byte
  /-- `BW_IN` (10_state.md R13). -/
  bwIn : Byte
  /-- `SF_IN` (10_state.md R13). -/
  sfIn : Byte
  /-- `CR_IN` (10_state.md R13). -/
  crIn : Byte
  /-- `TLEN_IN` (10_state.md R15). -/
  tlenIn : Byte
  /-- `FREQ_IN` (10_state.md R14). -/
  freqIn : Word32
  /-- `TEXT_IN[0..15]` (10_state.md R16). -/
  textIn : Vector Byte 16
  /-- `FRAME[0..31]` (10_state.md R22; log 7). -/
  frame : Frame
  /-- `RSSI_UP_OUT` (10_state.md R19). -/
  rssiUpOut : Byte
  /-- `RSSI_DN_OUT` (10_state.md R19). -/
  rssiDnOut : Byte
  /-- `SEQ_OUT` (10_state.md R19). -/
  seqOut : Byte
  /-- `BW_OUT` (10_state.md R19). -/
  bwOut : Byte
  /-- `SF_OUT` (10_state.md R19). -/
  sfOut : Byte
  /-- `CR_OUT` (10_state.md R19). -/
  crOut : Byte
  /-- `TLEN_OUT` (10_state.md R19). -/
  tlenOut : Byte
  /-- `FREQ_OUT` (10_state.md R20). -/
  freqOut : Word32
  /-- `HWADDR_OUT[0..5]` (10_state.md R20). -/
  hwaddrOut : Vector Byte 6
  /-- `TEXT_OUT[0..15]` (10_state.md R21). -/
  textOut : Vector Byte 16
  /-- `STATUS` (10_state.md R23). Its bits 7:3 are hardwired: `State.statusValue` reads them as 0 (log 6). -/
  status : Byte
  /-- The moves the host is going to make, the next one first. Not the block's (log 1). -/
  inputs : List HostInput
  /-- The response to the latest request since reset, if there was one. Not the block's (log 2). -/
  response : Option Response
  deriving DecidableEq, Repr

/-- The block right after reset: every bit of every register is 0 (10_state.md R32). No request has been
issued and no response given (log 1, log 2). -/
def State.reset : State where
  seqIn := 0x00#8
  rssiIn := 0x00#8
  bwIn := 0x00#8
  sfIn := 0x00#8
  crIn := 0x00#8
  tlenIn := 0x00#8
  freqIn := 0x00000000#32
  textIn := Vector.replicate 16 0x00#8
  frame := Vector.replicate 32 0x00#8
  rssiUpOut := 0x00#8
  rssiDnOut := 0x00#8
  seqOut := 0x00#8
  bwOut := 0x00#8
  sfOut := 0x00#8
  crOut := 0x00#8
  tlenOut := 0x00#8
  freqOut := 0x00000000#32
  hwaddrOut := Vector.replicate 6 0x00#8
  textOut := Vector.replicate 16 0x00#8
  status := 0x00#8
  inputs := []
  response := none

end Sys2Proof.Machine
end

