-- ==== Sys2Proof/Machine/Flags.lean ====
section
/-! DEFINITION. The three command errors, their codes, and the sticky bits of STATUS (10_state.md R23,
60_exceptions.md R130). The block has no other flag. -/

namespace Sys2Proof.Machine

open Sys2Proof

/-- The three errors of the block (60_exceptions.md R130). -/
inductive CommandError where
  /-- BUILD with `TLEN_IN > 15` (60_exceptions.md R131). -/
  | payloadTooLong
  /-- A reserved command word (60_exceptions.md R132). -/
  | illegalCommand
  /-- A reserved register index, or WR to a read-only register (60_exceptions.md R133). -/
  | illegalRegister
  deriving DecidableEq, Repr

/-- The response code of success (30_encoding.md R74). -/
def okCode : Byte := 0x00#8

/-- The response code of an error (60_exceptions.md R130). -/
def CommandError.code : CommandError → Byte
  | .payloadTooLong => 0x01#8
  | .illegalCommand => 0x02#8
  | .illegalRegister => 0x03#8

/-- The sticky bit of an error, at its place in STATUS: PTL bit 0, ICMD bit 1, IREG bit 2 (10_state.md
R23). -/
def CommandError.stickyBit : CommandError → Byte
  | .payloadTooLong => 0x01#8
  | .illegalCommand => 0x02#8
  | .illegalRegister => 0x04#8

/-- The bits of STATUS that exist; bits 7:3 are hardwired 0 (10_state.md R23). -/
def statusMask : Byte := 0x07#8

/-- What STATUS reads as (10_state.md R23: bits 7:3 "read as 0"). -/
def State.statusValue (s : State) : Byte := s.status &&& statusMask

/-- `STATUS.PTL` (10_state.md R23). -/
def State.ptl (s : State) : Bool := s.status.getLsbD 0

/-- `STATUS.ICMD` (10_state.md R23). -/
def State.icmd (s : State) : Bool := s.status.getLsbD 1

/-- `STATUS.IREG` (10_state.md R23). -/
def State.ireg (s : State) : Bool := s.status.getLsbD 2

/-- Set the sticky bit of an error; a bit already 1 stays 1 and no other bit changes (60_exceptions.md
R136). -/
def State.setSticky (s : State) (e : CommandError) : State :=
  { s with status := s.status ||| e.stickyBit }

/-- Clear the three sticky bits together (43_control.md R121). -/
def State.clearSticky (s : State) : State := { s with status := 0x00#8 }

end Sys2Proof.Machine
end

