-- ==== Sys2Proof/Machine/Layout.lean ====
section
/-! DEFINITION. The beacon frame as pure functions: field types, `pack`, `unpack`, `build_beacon` and
`decode_beacon` (30_encoding.md part A, 40_build.md R90, 41_decode.md R100). No state is involved. -/

namespace Sys2Proof.Machine

open Sys2Proof

/-- `sint_8(b)`: the signed value of a byte, two's complement (00_scope.md section 5.1, 30_encoding.md
R63). -/
def sint8 (b : Byte) : Int := if b.toNat < 128 then (b.toNat : Int) else (b.toNat : Int) - 256

/-- `byte_of_sint(n)`, the byte `n mod 256` (00_scope.md section 5.1, 30_encoding.md R63). -/
def byteOfSint (n : Int) : Byte := BitVec.ofNat 8 (n % 256).toNat

/-- `bytes4(f)`: the four bytes of a 32-bit pattern in frame order (30_encoding.md R66, R69). -/
def bytes4 (o : ByteOrder) (f : Word32) : Vector Byte 4 :=
  match o with
  | .le => #v[f.extractLsb' 0 8, f.extractLsb' 8 8, f.extractLsb' 16 8, f.extractLsb' 24 8]
  | .be => #v[f.extractLsb' 24 8, f.extractLsb' 16 8, f.extractLsb' 8 8, f.extractLsb' 0 8]

/-- `word4([b0, b1, b2, b3])`: the 32-bit pattern that four bytes in frame order carry (30_encoding.md
R69). -/
def word4 (o : ByteOrder) (b0 b1 b2 b3 : Byte) : Word32 :=
  match o with
  | .le => b3 ++ b2 ++ b1 ++ b0
  | .be => b0 ++ b1 ++ b2 ++ b3

/-- A field record: the nine fields of a frame (30_encoding.md R61, R69). -/
structure FieldRecord where
  rssiUp : Byte
  rssiDown : Byte
  hw : Vector Byte 6
  freq : Word32
  seq : Byte
  bw : Byte
  sf : Byte
  cr : Byte
  tx : Vector Byte 16
  deriving DecidableEq, Repr

/-- `pack` (30_encoding.md R69): the nine fields one after another, with no padding (R61). -/
def pack (o : ByteOrder) (r : FieldRecord) : Frame :=
  #v[r.rssiUp, r.rssiDown] ++ r.hw ++ bytes4 o r.freq ++ #v[r.seq, r.bw, r.sf, r.cr] ++ r.tx

/-- `unpack` (30_encoding.md R69). Its argument is exactly 32 bytes by its type (93 U6). -/
def unpack (o : ByteOrder) (b : Frame) : FieldRecord where
  rssiUp := b[0]
  rssiDown := b[1]
  hw := #v[b[2], b[3], b[4], b[5], b[6], b[7]]
  freq := word4 o b[8] b[9] b[10] b[11]
  seq := b[12]
  bw := b[13]
  sf := b[14]
  cr := b[15]
  tx := #v[b[16], b[17], b[18], b[19], b[20], b[21], b[22], b[23],
    b[24], b[25], b[26], b[27], b[28], b[29], b[30], b[31]]

/-- `text_len` (41_decode.md R103): the least index that holds 0x00, and 16 if there is none. -/
def textLen (tx : Vector Byte 16) : Nat := tx.toList.findIdx (· == 0x00#8)

/-- The most bytes a text may have (00_scope.md section 4, `TEXT_MAX_CHARS`). -/
def textMaxChars : Nat := 15

/-- The `payload_text` field of a text of at most 15 bytes: the text, then only 0x00 (30_encoding.md
R68). -/
def padText (t : List Byte) (h : t.length ≤ textMaxChars) : Vector Byte 16 :=
  ⟨(t ++ List.replicate (16 - t.length) 0x00#8).toArray, by
    simp [textMaxChars] at h ⊢
    omega⟩

/-- A radio-state snapshot `(freq, bw, sf, cr, rssi)` (40_build.md R90). -/
structure RadioState where
  freq : Word32
  bw : Byte
  sf : Byte
  cr : Byte
  rssi : Byte
  deriving DecidableEq, Repr

/-- `build_beacon` (40_build.md R90): the frame, or none for the error PayloadTooLong. The text may have
any length. -/
def buildBeacon (p : Params) (seq : Byte) (t : List Byte) (radio : RadioState) : Option Frame :=
  if h : t.length ≤ textMaxChars then
    some (pack p.byteOrder
      { rssiUp := 0x00#8, rssiDown := radio.rssi, hw := p.hwAddr, freq := radio.freq, seq := seq,
        bw := radio.bw, sf := radio.sf, cr := radio.cr, tx := padText t h })
  else none

/-- `decode_beacon` (41_decode.md R100): the nine fields and the length of the text. -/
def decodeBeacon (o : ByteOrder) (b : Frame) : FieldRecord × Nat :=
  let r := unpack o b
  (r, textLen r.tx)

end Sys2Proof.Machine
end

