-- ==== Sys2Proof/Machine/Ops.lean ====
section
/-! DEFINITION. The shared operations: the parameters in force, responses, error entry, the reset event,
the host's queue of moves, and the frame-buffer primitives. -/

namespace Sys2Proof.Machine

open Sys2Proof

/-- The parameters of this hardware: `BYTE_ORDER = LE` (00_scope.md R4), `HW_ADDR` open (00_scope.md
R3). -/
def params : Params := { hwAddr := Config.hwAddr, byteOrder := .le }

/-- `respond(status, rdata)` (00_scope.md section 5.3): the command ends with that response. -/
def State.respond (s : State) (status : Byte) (rdata : Word32) : State :=
  { s with response := some { status := status, rdata := rdata } }

/-- `respond(OK, rdata)` (30_encoding.md R74). -/
def State.respondOk (s : State) (rdata : Word32) : State := s.respond okCode rdata

/-- Error entry, the block's way of taking an exception (60_exceptions.md R136): set the error's sticky
bit, write no other state, respond `(code, 0)`. There is no handler, nothing is saved, and there is
nothing to return from (R139). -/
def State.raise (s : State) (e : CommandError) : State := (s.setSticky e).respond e.code 0#32

/-- The reset event (70_reset_and_hazards.md R150): every register takes its reset value. The moves the
host is still going to make are the host's and stay (log 3); there is no latest response (log 2). -/
def State.resetEvent (s : State) : State := { State.reset with inputs := s.inputs }

/-- The host's next move, and the state in which the block performs it. -/
def State.nextInput (s : State) : Option (HostInput × State) :=
  match s.inputs with
  | [] => none
  | i :: rest => some (i, { s with inputs := rest })

/-- The host's next moves become `ins`, before those it was going to make (log 1). -/
def State.issue (s : State) (ins : List HostInput) : State := { s with inputs := ins ++ s.inputs }

/-- The operand register `TLEN_IN` as a number, unsigned (10_state.md R15). -/
def State.textLength (s : State) : Nat := s.tlenIn.toNat

/-- `MemRead(addr, 1)` (20_memory.md R41). -/
def memRead1 (f : Frame) (a : Fin 32) : Byte := f[a]

/-- `MemRead(addr, 4)` with `addr + 4 <= 32` (20_memory.md R41). -/
def memRead4 (o : ByteOrder) (f : Frame) (a : Fin 29) : Word32 :=
  match o with
  | .le => f[a.val + 3] ++ f[a.val + 2] ++ f[a.val + 1] ++ f[a.val]
  | .be => f[a.val] ++ f[a.val + 1] ++ f[a.val + 2] ++ f[a.val + 3]

/-- `MemWrite(addr, 1, v)` (20_memory.md R42). -/
def memWrite1 (f : Frame) (a : Fin 32) (v : Byte) : Frame := f.set a v

/-- `MemWrite(addr, 4, v)` with `addr + 4 <= 32` (20_memory.md R42). -/
def memWrite4 (o : ByteOrder) (f : Frame) (a : Fin 29) (v : Word32) : Frame :=
  match o with
  | .le =>
    (((f.set a.val (v.extractLsb' 0 8)).set (a.val + 1) (v.extractLsb' 8 8)).set
      (a.val + 2) (v.extractLsb' 16 8)).set (a.val + 3) (v.extractLsb' 24 8)
  | .be =>
    (((f.set a.val (v.extractLsb' 24 8)).set (a.val + 1) (v.extractLsb' 16 8)).set
      (a.val + 2) (v.extractLsb' 8 8)).set (a.val + 3) (v.extractLsb' 0 8)

/-- `for i in 0..n-1: MemWrite(base + i, 1, v(i))`, in ascending order (00_scope.md section 5.3). -/
def memWriteRange (n base : Nat) (h : base + n ≤ 32) (v : Fin n → Byte) (f : Frame) : Frame :=
  Nat.fold n (fun i hi g => memWrite1 g ⟨base + i, by omega⟩ (v ⟨i, hi⟩)) f

/-- `for i in 0..n-1: MemRead(base + i, 1)`, the bytes in ascending order. -/
def memReadRange (n base : Nat) (h : base + n ≤ 32) (f : Frame) : Vector Byte n :=
  Vector.ofFn fun i => memRead1 f ⟨base + i.val, by omega⟩

end Sys2Proof.Machine
end

