-- ==== Sys2Proof/Machine/Operands.lean ====
section
/-! DEFINITION. The one operand form: an absolute 8-bit register index (42_register_access.md R114). The
register map (10_state.md R30, R31), widths and access, and the reading and writing of one register. -/

namespace Sys2Proof.Machine

open Sys2Proof

/-- `zext_32` of a byte (00_scope.md section 5.1). -/
def zext32 (b : Byte) : Word32 := b.setWidth 32

/-- `trunc_8` of a data word (00_scope.md section 5.1). -/
def trunc8 (v : Word32) : Byte := v.setWidth 8

/-- The index of a register (10_state.md R30). -/
def regIndex : Reg → Byte
  | .seqIn => 0x00#8
  | .rssiIn => 0x01#8
  | .bwIn => 0x02#8
  | .sfIn => 0x03#8
  | .crIn => 0x04#8
  | .tlenIn => 0x05#8
  | .freqIn => 0x06#8
  | .hwaddrCfg i => BitVec.ofNat 8 (0x08 + i.val)
  | .status => 0x0E#8
  | .textIn i => BitVec.ofNat 8 (0x10 + i.val)
  | .frame i => BitVec.ofNat 8 (0x20 + i.val)
  | .rssiUpOut => 0x40#8
  | .rssiDnOut => 0x41#8
  | .seqOut => 0x42#8
  | .bwOut => 0x43#8
  | .sfOut => 0x44#8
  | .crOut => 0x45#8
  | .tlenOut => 0x46#8
  | .freqOut => 0x47#8
  | .hwaddrOut i => BitVec.ofNat 8 (0x48 + i.val)
  | .textOut i => BitVec.ofNat 8 (0x50 + i.val)

/-- The register at an index, none for a reserved index (10_state.md R30, R31). -/
def regOfIndex (r : Byte) : Option Reg :=
  let n := r.toNat
  if n = 0x00 then some .seqIn
  else if n = 0x01 then some .rssiIn
  else if n = 0x02 then some .bwIn
  else if n = 0x03 then some .sfIn
  else if n = 0x04 then some .crIn
  else if n = 0x05 then some .tlenIn
  else if n = 0x06 then some .freqIn
  else if h : 0x08 ≤ n ∧ n ≤ 0x0D then some (.hwaddrCfg ⟨n - 0x08, by omega⟩)
  else if n = 0x0E then some .status
  else if h : 0x10 ≤ n ∧ n ≤ 0x1F then some (.textIn ⟨n - 0x10, by omega⟩)
  else if h : 0x20 ≤ n ∧ n ≤ 0x3F then some (.frame ⟨n - 0x20, by omega⟩)
  else if n = 0x40 then some .rssiUpOut
  else if n = 0x41 then some .rssiDnOut
  else if n = 0x42 then some .seqOut
  else if n = 0x43 then some .bwOut
  else if n = 0x44 then some .sfOut
  else if n = 0x45 then some .crOut
  else if n = 0x46 then some .tlenOut
  else if n = 0x47 then some .freqOut
  else if h : 0x48 ≤ n ∧ n ≤ 0x4D then some (.hwaddrOut ⟨n - 0x48, by omega⟩)
  else if h : 0x50 ≤ n ∧ n ≤ 0x5F then some (.textOut ⟨n - 0x50, by omega⟩)
  else none

/-- The width of a register in bits (42_register_access.md R112). -/
def regWidth : Reg → Nat
  | .freqIn => 32
  | .freqOut => 32
  | _ => 8

/-- The host's right on a register (10_state.md R30): operand registers and frame bytes are read and
write, everything else read only. -/
def regAccess : Reg → Access
  | .seqIn | .rssiIn | .bwIn | .sfIn | .crIn | .tlenIn | .freqIn => .rw
  | .textIn _ => .rw
  | .frame _ => .rw
  | .hwaddrCfg _ | .status => .ro
  | .rssiUpOut | .rssiDnOut | .seqOut | .bwOut | .sfOut | .crOut | .tlenOut | .freqOut => .ro
  | .hwaddrOut _ => .ro
  | .textOut _ => .ro

/-- `x[r]` as `rdata`: an 8-bit register zero-extended, a 32-bit register as it is (42_register_access.md
R110, R112). `HWADDR_CFG` is a view of the parameter (10_state.md R25) and STATUS reads with its hardwired
bits 0 (10_state.md R23). -/
def State.readReg (p : Params) (s : State) : Reg → Word32
  | .seqIn => zext32 s.seqIn
  | .rssiIn => zext32 s.rssiIn
  | .bwIn => zext32 s.bwIn
  | .sfIn => zext32 s.sfIn
  | .crIn => zext32 s.crIn
  | .tlenIn => zext32 s.tlenIn
  | .freqIn => s.freqIn
  | .hwaddrCfg i => zext32 p.hwAddr[i]
  | .status => zext32 s.statusValue
  | .textIn i => zext32 s.textIn[i]
  | .frame i => zext32 s.frame[i]
  | .rssiUpOut => zext32 s.rssiUpOut
  | .rssiDnOut => zext32 s.rssiDnOut
  | .seqOut => zext32 s.seqOut
  | .bwOut => zext32 s.bwOut
  | .sfOut => zext32 s.sfOut
  | .crOut => zext32 s.crOut
  | .tlenOut => zext32 s.tlenOut
  | .freqOut => s.freqOut
  | .hwaddrOut i => zext32 s.hwaddrOut[i]
  | .textOut i => zext32 s.textOut[i]

/-- `x[r] <- v` as WR does it: an 8-bit register takes `trunc_8(v)`, `FREQ_IN` all of `v`
(42_register_access.md R111, R112). A read-only register has no write: WR raises IllegalRegister before it
gets here (R113), and this operation leaves the state alone. -/
def State.writeReg (s : State) (v : Word32) : Reg → State
  | .seqIn => { s with seqIn := trunc8 v }
  | .rssiIn => { s with rssiIn := trunc8 v }
  | .bwIn => { s with bwIn := trunc8 v }
  | .sfIn => { s with sfIn := trunc8 v }
  | .crIn => { s with crIn := trunc8 v }
  | .tlenIn => { s with tlenIn := trunc8 v }
  | .freqIn => { s with freqIn := v }
  | .textIn i => { s with textIn := s.textIn.set i (trunc8 v) }
  | .frame i => { s with frame := memWrite1 s.frame i (trunc8 v) }
  | .hwaddrCfg _ | .status => s
  | .rssiUpOut | .rssiDnOut | .seqOut | .bwOut | .sfOut | .crOut | .tlenOut | .freqOut => s
  | .hwaddrOut _ => s
  | .textOut _ => s

end Sys2Proof.Machine
end

