-- ==== Sys2Proof/Machine/Build.lean ====
section
/-! DEFINITION. The BUILD command (40_build.md R91). -/

namespace Sys2Proof.Machine

open Sys2Proof

/-- The writes of a successful BUILD, in the order of the pseudocode of 40_build.md R91. -/
def State.buildFrame (p : Params) (s : State) : Frame :=
  let f := memWrite1 s.frame 0 0x00#8
  let f := memWrite1 f 1 s.rssiIn
  let f := memWriteRange 6 2 (by omega) (fun i => p.hwAddr[i]) f
  let f := memWrite4 p.byteOrder f 8 s.freqIn
  let f := memWrite1 f 12 s.seqIn
  let f := memWrite1 f 13 s.bwIn
  let f := memWrite1 f 14 s.sfIn
  let f := memWrite1 f 15 s.crIn
  memWriteRange 16 16 (by omega) (fun i => if i.val < s.textLength then s.textIn[i] else 0x00#8) f

/-- BUILD under the parameters `p` (40_build.md R91, R92): the length check stands before every write. -/
def State.buildCommand (p : Params) (s : State) : State :=
  if s.textLength > textMaxChars then s.raise .payloadTooLong
  else ({ s with frame := s.buildFrame p }).respondOk 0#32

/-- BUILD (40_build.md R91). -/
def execBuild (s : State) : Host.Outcome State Fault Refusal := .next (s.buildCommand params)

end Sys2Proof.Machine
end

