-- ==== Sys2Proof/Machine/Control.lean ====
section
/-! DEFINITION. The NOP and CLRERR commands (43_control.md R120, R121). -/

namespace Sys2Proof.Machine

open Sys2Proof

/-- NOP (43_control.md R120): no state changes; responds OK. -/
def execNop (s : State) : Host.Outcome State Fault Refusal := .next (s.respondOk 0#32)

/-- CLRERR (43_control.md R121): clears the sticky bits, changes nothing else; responds OK. -/
def execClrerr (s : State) : Host.Outcome State Fault Refusal := .next (s.clearSticky.respondOk 0#32)

end Sys2Proof.Machine
end

