-- ==== Sys2Proof/Machine/DecodeFrame.lean ====
section
/-! DEFINITION. The DECODE command (41_decode.md R101). -/

namespace Sys2Proof.Machine

open Sys2Proof

/-- The 30 result registers as DECODE writes them (41_decode.md R101): all of them, every time, and
nothing else (R107). Nothing is validated (R102). -/
def State.decodeResults (p : Params) (s : State) : State :=
  { s with
    rssiUpOut := memRead1 s.frame 0
    rssiDnOut := memRead1 s.frame 1
    hwaddrOut := memReadRange 6 2 (by omega) s.frame
    freqOut := memRead4 p.byteOrder s.frame 8
    seqOut := memRead1 s.frame 12
    bwOut := memRead1 s.frame 13
    sfOut := memRead1 s.frame 14
    crOut := memRead1 s.frame 15
    textOut := memReadRange 16 16 (by omega) s.frame
    tlenOut := BitVec.ofNat 8 (textLen (memReadRange 16 16 (by omega) s.frame)) }

/-- DECODE under the parameters `p` (41_decode.md R101). -/
def State.decodeCommand (p : Params) (s : State) : State := (s.decodeResults p).respondOk 0#32

/-- DECODE (41_decode.md R101). -/
def execDecode (s : State) : Host.Outcome State Fault Refusal := .next (s.decodeCommand params)

end Sys2Proof.Machine
end

