-- ==== Sys2Proof/Machine/RegAccess.lean ====
section
/-! DEFINITION. The RD and WR commands (42_register_access.md R110, R111). -/

namespace Sys2Proof.Machine

open Sys2Proof

/-- RD `r` under the parameters `p` (42_register_access.md R110). -/
def State.readCommand (p : Params) (s : State) (r : Byte) : State :=
  match regOfIndex r with
  | none => s.raise .illegalRegister
  | some reg => s.respondOk (s.readReg p reg)

/-- WR `r`, `v` (42_register_access.md R111): reserved before read-only, with the same result (60_exceptions.md
R137). The value is never checked. -/
def State.writeCommand (s : State) (r : Byte) (v : Word32) : State :=
  match regOfIndex r with
  | none => s.raise .illegalRegister
  | some reg =>
    match regAccess reg with
    | .ro => s.raise .illegalRegister
    | .rw => (s.writeReg v reg).respondOk 0#32

/-- RD (42_register_access.md R110). -/
def execRd (r : Byte) (s : State) : Host.Outcome State Fault Refusal := .next (s.readCommand params r)

/-- WR (42_register_access.md R111). -/
def execWr (r : Byte) (v : Word32) (s : State) : Host.Outcome State Fault Refusal :=
  .next (s.writeCommand r v)

end Sys2Proof.Machine
end

