-- ==== Sys2Proof/Machine/Dispatch.lean ====
section
/-! DEFINITION. One arm per command: the meaning it calls. -/

namespace Sys2Proof.Machine

open Sys2Proof

-- The meaning of each command (30_encoding.md R70).
def exec (i : Instr) (s : State) : Host.Outcome State Fault Refusal :=
  match i with
  | .nop => Sys2Proof.Machine.execNop s
  | .build => Sys2Proof.Machine.execBuild s
  | .decode => Sys2Proof.Machine.execDecode s
  | .clrerr => Sys2Proof.Machine.execClrerr s
  | .rd r => Sys2Proof.Machine.execRd r s
  | .wr r v => Sys2Proof.Machine.execWr r v s

end Sys2Proof.Machine
end

