-- ==== Sys2Proof/Machine/Step.lean ====
section
/-! DEFINITION. One step of the block: the host's next move, served to completion. -/

namespace Sys2Proof.Machine

open Sys2Proof

/-- One step. A request is decoded and executed, or raises IllegalCommand if its word is reserved
(60_exceptions.md R132, R137); a reset event resets (70_reset_and_hazards.md R150); with no move of the
host the block waits and nothing changes (R151, 60_exceptions.md R135; log 3). -/
def step (s : State) : Host.Outcome State Fault Refusal :=
  match s.nextInput with
  | none => .next s
  | some (.reset, s') => .next s'.resetEvent
  | some (.request q, s') =>
    match decode q with
    | .ok i => exec i s'
    | .error _ => .next (s'.raise .illegalCommand)

/-- The host's next move becomes the request whose bits are `w` (log 1, log 9). -/
def State.withFetchWord (s : State) (nbits w : Nat) : State :=
  s.issue [.request (requestOfTableWord nbits w)]

end Sys2Proof.Machine
end

