-- ==== Sys2Proof/Machine/Binary32.lean ====
section
/-! DEFINITION. The IEEE-754 binary32 reading of the `frequency` pattern (30_encoding.md R67). No command
uses it (10_state.md R27): it is here for claims about the number a frame carries and for the assembler. -/

namespace Sys2Proof.Machine

open Sys2Proof

/-- The sign `s`, bit 31 (30_encoding.md R67). -/
def binary32Sign (f : Word32) : Bool := f.getLsbD 31

/-- The biased exponent `e`, bits 30 to 23 (30_encoding.md R67). -/
def binary32Exponent (f : Word32) : Nat := (f.extractLsb' 23 8).toNat

/-- The fraction `m`, bits 22 to 0 (30_encoding.md R67). -/
def binary32Fraction (f : Word32) : Nat := (f.extractLsb' 0 23).toNat

/-- What a binary32 pattern is read as (30_encoding.md R67). -/
inductive Binary32 where
  | zero (negative : Bool)
  | subnormal (value : ℚ)
  | normal (value : ℚ)
  | infinity (negative : Bool)
  | nan
  deriving DecidableEq, Repr

/-- `(-1)^s` (30_encoding.md R67). -/
def signFactor (negative : Bool) : ℚ := if negative then -1 else 1

/-- The reading of a pattern (30_encoding.md R67), case by case as the rule lists them. -/
def binary32Read (f : Word32) : Binary32 :=
  let s := binary32Sign f
  let e := binary32Exponent f
  let m := binary32Fraction f
  if e = 0 then
    if m = 0 then .zero s else .subnormal (signFactor s * 2 ^ (-126 : ℤ) * (m / 2 ^ 23))
  else if e = 255 then
    if m = 0 then .infinity s else .nan
  else .normal (signFactor s * 2 ^ ((e : ℤ) - 127) * (1 + m / 2 ^ 23))

/-- `n / d` rounded to the nearest integer, ties to even. -/
def roundHalfEven (n d : Nat) : Nat :=
  let q := n / d
  let r := n % d
  if 2 * r < d then q
  else if 2 * r > d then q + 1
  else if q % 2 = 0 then q else q + 1

/-- The binary logarithm of `n / d`, rounded down, 150 added (0 where that is negative, or where `n` is
0). -/
def biasedLog2 (n d : Nat) : Nat :=
  if n = 0 then 0
  else
    let b := n.log2 + 150 - d.log2
    if 2 ^ b * d ≤ n * 2 ^ 150 then b else b - 1

/-- The binary32 pattern of `n / d` without its sign, rounded to nearest, ties to even (30_encoding.md
R79); a value that rounds past the largest finite number gives infinity (PRESUMED, log 11). The unit of
the last place is `2 ^ (b - 173)` with `b` the biased logarithm, and never below `2 ^ (-149)`. -/
def binary32Magnitude (n d : Nat) : Nat :=
  let b := max (biasedLog2 n d) 24
  let significand := roundHalfEven (n * 2 ^ 173) (d * 2 ^ b)
  min ((b - 24) * 2 ^ 23 + significand) (255 * 2 ^ 23)

/-- `f32(x)` for the decimal of absolute value `digits / 10 ^ decimals` (30_encoding.md R79). -/
def binary32OfDecimal (negative : Bool) (digits decimals : Nat) : Word32 :=
  BitVec.ofNat 32 ((if negative then 2 ^ 31 else 0) + binary32Magnitude digits (10 ^ decimals))

end Sys2Proof.Machine
end

