-- ==== Sys2Proof/Machine/Assembler.lean ====
section
/-! DEFINITION. The assembler notation (30_encoding.md R79) and the fixed expansions of the
pseudo-instructions (R80). -/

namespace Sys2Proof.Machine

open Sys2Proof

/-- The index of `<reg>` (30_encoding.md R79). -/
def asmIndex : AsmReg → Byte
  | .named r => regIndex r
  | .index n => BitVec.ofNat 8 n

/-- The 32 bits of `<value>` (30_encoding.md R79). -/
def asmWord : AsmValue → Word32
  | .num n => BitVec.ofNat 32 n
  | .neg n => -BitVec.ofNat 32 n
  | .char c => BitVec.ofNat 32 c.toNat
  | .f32 negative digits decimals => binary32OfDecimal negative digits decimals

/-- `WR <reg>, v` for a named register. -/
def wrNamed (r : Reg) (v : Word32) : Instr := .wr (regIndex r) v

/-- `LDTEXT`: the length, then at most the first 16 bytes (30_encoding.md R80). -/
def ldtextCommands (text : List Byte) : List Instr :=
  wrNamed .tlenIn (BitVec.ofNat 32 text.length) ::
    (text.take 16).mapIdx fun i c => .wr (BitVec.ofNat 8 (0x10 + i)) (zext32 c)

/-- `LDRADIO f, bw, sf, cr, rssi` (30_encoding.md R80). -/
def ldradioCommands (f bw sf cr rssi : Word32) : List Instr :=
  [wrNamed .freqIn f, wrNamed .bwIn bw, wrNamed .sfIn sf, wrNamed .crIn cr, wrNamed .rssiIn rssi]

/-- `LDFRAME b0 ... b31` (30_encoding.md R80). -/
def ldframeCommands (bytes : List Byte) : List Instr :=
  bytes.mapIdx fun i b => .wr (BitVec.ofNat 8 (0x20 + i)) (zext32 b)

/-- `RDFRAME` (30_encoding.md R80). -/
def rdframeCommands : List Instr := (List.range 32).map fun i => .rd (BitVec.ofNat 8 (0x20 + i))

/-- `BEACON s` (30_encoding.md R80). -/
def beaconCommands (s : Word32) : List Instr := [wrNamed .seqIn s, .build]

/-- The commands a line stands for, in the order they are issued (30_encoding.md R79, R80). -/
def asmCommands : AsmLine → List Instr
  | .nop => [.nop]
  | .build => [.build]
  | .decode => [.decode]
  | .clrerr => [.clrerr]
  | .rd r => [.rd (asmIndex r)]
  | .wr r v => [.wr (asmIndex r) (asmWord v)]
  | .ldtext text => ldtextCommands text
  | .ldradio f bw sf cr rssi =>
    ldradioCommands (asmWord f) (asmWord bw) (asmWord sf) (asmWord cr)
      (asmWord rssi)
  | .ldframe bytes => ldframeCommands (bytes.map (BitVec.ofNat 8))
  | .rdframe => rdframeCommands
  | .beacon s => beaconCommands (asmWord s)

/-- The requests of a line; none where the line is ill-formed. -/
def assemble (l : AsmLine) : Option (List Request) :=
  if l.wellFormed then some ((asmCommands l).map encode) else none

end Sys2Proof.Machine
end

