-- ==== Sys2Proof/Machine/HostDuties.lean ====
section
/-! DEFINITION. What the host may and must do (70_reset_and_hazards.md R153 to R165), as named functions and
predicates. The block enforces none of them (R155): a claim takes one as a premise by its name (log 10). -/

namespace Sys2Proof.Machine

open Sys2Proof

/-- The host's moves that issue these commands, in order (30_encoding.md R79). -/
def requestsOf (cs : List Instr) : List HostInput := cs.map fun c => .request (encode c)

/-- The host's moves of a well-formed assembler listing, one line after another; none where a line is
ill-formed (30_encoding.md R79, R80). -/
def assembleListing : List AsmLine → Option (List HostInput)
  | [] => some []
  | l :: rest =>
    match assemble l, assembleListing rest with
    | some qs, some ins => some (qs.map HostInput.request ++ ins)
    | _, _ => none

/-- The command writes FRAME if it succeeds (20_memory.md R45, 42_register_access.md R111). -/
def writesFrame : Instr → Bool
  | .nop => false
  | .build => true
  | .decode => false
  | .clrerr => false
  | .rd _ => false
  | .wr r _ => decide (0x20 ≤ r.toNat ∧ r.toNat ≤ 0x3F)

/-- The command writes an operand register if it succeeds (10_state.md R17). -/
def writesOperands : Instr → Bool
  | .nop => false
  | .build => false
  | .decode => false
  | .clrerr => false
  | .rd _ => false
  | .wr r _ => decide (r.toNat ≤ 0x06 ∨ (0x10 ≤ r.toNat ∧ r.toNat ≤ 0x1F))

/-- The command writes the result registers (41_decode.md R107). -/
def writesResults : Instr → Bool
  | .nop => false
  | .build => false
  | .decode => true
  | .clrerr => false
  | .rd _ => false
  | .wr _ _ => false

/-- The move is a reset, or a command of which `writes` holds. A reserved word executes nothing
(30_encoding.md R76). -/
def movesWrite (writes : Instr → Bool) : HostInput → Bool
  | .reset => true
  | .request q =>
    match decode q with
    | .ok c => writes c
    | .error _ => false

/-- None of the moves is a BUILD, a WR to a FRAME byte, or a reset: the premise of a fetch that is not
torn (70_reset_and_hazards.md R155, R160). Every BUILD counts, a failing one too, as R155 has it. -/
def cleanFetch (ins : List HostInput) : Bool := ins.all fun i => !movesWrite writesFrame i

/-- None of the moves is a DECODE or a reset: the results of the last DECODE can still be read
(70_reset_and_hazards.md R161). -/
def keepsResults (ins : List HostInput) : Bool := ins.all fun i => !movesWrite writesResults i

/-- None of the moves is a WR to an operand register or a reset (10_state.md R17). -/
def keepsOperands (ins : List HostInput) : Bool := ins.all fun i => !movesWrite writesOperands i

/-- The number of BUILD commands among the moves. -/
def countBuilds (ins : List HostInput) : Nat :=
  ins.countP fun i => match i with
    | .reset => false
    | .request q => (decode q).toOption == some .build

/-- The moves of one loop tick hold at most one BUILD (70_reset_and_hazards.md R164). -/
def oneBuildPerTick (tick : List HostInput) : Bool := decide (countBuilds tick ≤ 1)

/-- The radio operands are this snapshot (70_reset_and_hazards.md R156). -/
def holdsSnapshot (s : State) (radio : RadioState) : Bool :=
  s.freqIn == radio.freq && s.bwIn == radio.bw && s.sfIn == radio.sf && s.crIn == radio.cr &&
    s.rssiIn == radio.rssi

/-- The text operands are this text (70_reset_and_hazards.md R153, 10_state.md R16). -/
def holdsText (s : State) (text : List Byte) : Bool :=
  s.textLength == text.length && s.textIn.toList.take text.length == text.take 16

/-- Everything a BUILD reads is what the host means to send (70_reset_and_hazards.md R153). -/
def readyToBuild (s : State) (seq : Byte) (text : List Byte) (radio : RadioState) : Bool :=
  s.seqIn == seq && holdsText s text && holdsSnapshot s radio

/-- No byte among the first `TLEN_IN` bytes of the text is 0x00 (70_reset_and_hazards.md R163). -/
def nulFreeText (s : State) : Bool := (s.textIn.toList.take s.textLength).all fun b => b != 0x00#8

/-- The host may hand FRAME to the radio: the BUILD just answered responded OK (70_reset_and_hazards.md
R159). -/
def mayTransmit (s : State) : Bool :=
  match s.response with
  | none => false
  | some r => r.status == okCode

/-- What the radio is given: the 32 bytes in offset order (20_memory.md R52, 70_reset_and_hazards.md
R162). -/
def transmission (s : State) : List Byte := s.frame.toList

/-- The moves load all 32 bytes of one frame (70_reset_and_hazards.md R165). -/
def loadFrame (b : Frame) : List HostInput := requestsOf (ldframeCommands b.toList)

/-- The sequence number of the next attempt, whatever became of this one (70_reset_and_hazards.md
R157). -/
def seqNext (seq : Byte) : Byte := seq + 1#8

/-- The sequence number of attempt `k`, the first being attempt 0 with `SEQ_INIT` (70_reset_and_hazards.md
R157, R158; log 13). -/
def seqOfAttempt (seqInit : Byte) : Nat → Byte
  | 0 => seqInit
  | k + 1 => seqNext (seqOfAttempt seqInit k)

/-- One beacon attempt of the host: LDRADIO, LDTEXT, BEACON (30_encoding.md R80, 70_reset_and_hazards.md
R156, R157). -/
def beaconAttempt (seq : Byte) (text : List Byte) (radio : RadioState) : List HostInput :=
  requestsOf
    (ldradioCommands radio.freq (zext32 radio.bw) (zext32 radio.sf) (zext32 radio.cr) (zext32 radio.rssi) ++
      ldtextCommands text ++ beaconCommands (zext32 seq))

end Sys2Proof.Machine
end

