-- ==== Sys2Proof/Safety.lean ====
section
/-! DEFINITION. The terms claims are stated in: serving a list of moves, the two shapes of a response, what
a run that never stops is, and the invariant of the block. -/

namespace Sys2Proof.Machine

open Sys2Proof

/-- The block serves these moves of the host, one step each, before the ones the host was going to make. -/
def serve (ins : List HostInput) (s : State) : Host.Outcome State Fault Refusal :=
  core.run ins.length (s.issue ins)

/-- `s` after a command that changed nothing and answered `(0x00, rdata)` (30_encoding.md R74). -/
def answered (s : State) (rdata : Word32) : State :=
  { s with response := some { status := 0x00#8, rdata := rdata } }

/-- `s` after a command error: one STATUS bit set, the answer `(code, 0)` (60_exceptions.md R136). -/
def failedWith (s : State) (code bit : Byte) : State :=
  { s with status := s.status ||| bit, response := some { status := code, rdata := 0#32 } }

/-- The STATUS bit of a response code (60_exceptions.md R130). -/
def bitOfCode (code : Byte) : Byte :=
  if code = 0x01#8 then 0x01#8 else if code = 0x02#8 then 0x02#8 else if code = 0x03#8 then 0x04#8
  else 0x00#8

/-- A safe state: whatever the host does next, and for however long, the block neither faults nor refuses
(60_exceptions.md R141). -/
def NeverStops (s : State) : Prop := ∀ (ins : List HostInput) (k : Nat), ∃ t, core.run k (s.issue ins) = .next t

/-- The 23 operand registers agree (10_state.md R10). -/
def SameOperands (s t : State) : Prop :=
  s.seqIn = t.seqIn ∧ s.rssiIn = t.rssiIn ∧ s.bwIn = t.bwIn ∧ s.sfIn = t.sfIn ∧ s.crIn = t.crIn ∧
    s.tlenIn = t.tlenIn ∧ s.freqIn = t.freqIn ∧ s.textIn = t.textIn

/-- The 30 result registers agree (10_state.md R18). -/
def SameResults (s t : State) : Prop :=
  s.rssiUpOut = t.rssiUpOut ∧ s.rssiDnOut = t.rssiDnOut ∧ s.seqOut = t.seqOut ∧ s.bwOut = t.bwOut ∧
    s.sfOut = t.sfOut ∧ s.crOut = t.crOut ∧ s.tlenOut = t.tlenOut ∧ s.freqOut = t.freqOut ∧
    s.hwaddrOut = t.hwaddrOut ∧ s.textOut = t.textOut

/-- The hardwired bits 7:3 of STATUS are 0 in storage too (10_state.md R23). -/
abbrev State.ReservedBitsZero (s : State) : Prop := s.status &&& 0xF8#8 = 0x00#8

/-- `TLEN_OUT` is the length of the text in `TEXT_OUT` (41_decode.md R103). -/
abbrev State.LengthMatchesText (s : State) : Prop := s.tlenOut = BitVec.ofNat 8 (textLen s.textOut)

/-- The latest response is one the block can give: one of the four codes, `rdata` 0 on an error, and the
error's sticky bit set (30_encoding.md R74, 60_exceptions.md R136). -/
abbrev State.ResponseIsLegal (s : State) : Prop :=
  s.response.all (fun r =>
    r.status == 0x00#8 ||
      (decide (r.status.toNat ≤ 3) && r.rdata == 0#32 &&
        s.status &&& bitOfCode r.status == bitOfCode r.status)) = true

/-- The invariant of the block. -/
abbrev State.Inv (s : State) : Prop :=
  s.ReservedBitsZero ∧ s.LengthMatchesText ∧ s.ResponseIsLegal

end Sys2Proof.Machine
end

