-- ==== Sys2Proof/Certificates/Slice0/Obligations.lean ====
section
/-! DEFINITION. The statements for the provers. A statement over `p : Params` holds for every `HW_ADDR` and
both byte orders; the machine itself runs with `params`. -/

open Sys2Proof Sys2Proof.Machine

/-! ### Encoding -/

/-- Decoding the request of a command gives the command back, every operand at every value. -/
def Obligations.DecodeInvertsEncode : Prop :=
  ∀ i : Instr, i.wellFormed = true → decode (encode i) = .ok i

/-- 30_encoding.md R72: no word selects two rows of the opcode map, a word decodes to the command whose row
it selects, with the word's low byte as its register index, and a word that selects no row is reserved. -/
def Obligations.OpcodeMapDecidesTheCommand : Prop :=
  opcodeTable.map (fun row => (row.mnemonic, row.pattern, row.mask)) =
    [("NOP", 0x0000#16, 0xFFFF#16), ("BUILD", 0x0100#16, 0xFFFF#16), ("DECODE", 0x0200#16, 0xFFFF#16),
     ("CLRERR", 0x0300#16, 0xFFFF#16), ("RD", 0x1000#16, 0xFF00#16), ("WR", 0x1100#16, 0xFF00#16)] ∧
  (∀ w : Word16, (opcodeTable.filter (·.selectedBy w)).length ≤ 1) ∧
  ∀ (w : Word16) (v : Word32),
    match decode ⟨w, v⟩ with
    | .ok i => (opcodeTable.filter (·.selectedBy w)).map (·.mnemonic) = [i.mnemonic] ∧ (encode i).cmd = w
    | .error _ => opcodeTable.filter (·.selectedBy w) = []

/-- 30_encoding.md R73, R82: which command a word names does not depend on the data word, and only WR takes
the data word in. -/
def Obligations.DataWordOnlyReachesWrite : Prop :=
  ∀ (w : Word16) (v v' : Word32),
    match decode ⟨w, v⟩ with
    | .ok (.wr r u) => u = v ∧ decode ⟨w, v'⟩ = .ok (.wr r v')
    | other => decode ⟨w, v'⟩ = other

/-- 30_encoding.md R76, 60_exceptions.md R132: the reserved words are exactly those with `op` in 0x04..0x0F
or 0x12..0xFF, and those with `op` in 0x00..0x03 and `reg` not 0; a request with one sets STATUS.ICMD,
responds `(0x02, 0)` and changes nothing else of the block. -/
def Obligations.ReservedWordIsIllegalCommand : Prop :=
  ∀ (op reg : Byte) (v : Word32),
    ((∃ why, decode ⟨op ++ reg, v⟩ = .error why) ↔
      ((0x04 ≤ op.toNat ∧ op.toNat ≤ 0x0F) ∨ 0x12 ≤ op.toNat ∨ (op.toNat ≤ 0x03 ∧ reg ≠ 0x00#8))) ∧
    (((0x04 ≤ op.toNat ∧ op.toNat ≤ 0x0F) ∨ 0x12 ≤ op.toNat ∨ (op.toNat ≤ 0x03 ∧ reg ≠ 0x00#8)) →
      ∀ (s : State) (rest : List HostInput), s.inputs = .request ⟨op ++ reg, v⟩ :: rest →
        step s = .next (failedWith { s with inputs := rest } 0x02#8 0x02#8))

/-- Words written out from 30_encoding.md R72 decode to the commands they stand for. -/
def Obligations.WorkedWordsDecode : Prop :=
  decode ⟨0b0000000000000000#16, 0xFFFFFFFF#32⟩ = .ok .nop ∧
  decode ⟨0b0000000100000000#16, 0#32⟩ = .ok .build ∧
  decode ⟨0b0000001000000000#16, 0#32⟩ = .ok .decode ∧
  decode ⟨0b0000001100000000#16, 0#32⟩ = .ok .clrerr ∧
  decode ⟨0b0001000011111111#16, 7#32⟩ = .ok (.rd 0xFF#8) ∧
  decode ⟨0b0001000100000110#16, 0x4464C000#32⟩ = .ok (.wr 0x06#8 0x4464C000#32)

/-! ### Steps, reset, and the block as a whole -/

/-- A step whose next move is a request with a command's word is `exec` of that command, in the state from
which the move has been taken. (That moves are held in `inputs` is the model's choice, log 1.) -/
def Obligations.StepRunsDecodedCommand : Prop :=
  ∀ (s : State) (q : Request) (i : Instr) (rest : List HostInput),
    s.inputs = .request q :: rest → decode q = .ok i → step s = exec i { s with inputs := rest }

/-- With no move of the host a step changes nothing: the model's choice, log 3, from
70_reset_and_hazards.md section 1 ("waits for the first request"). -/
def Obligations.IdleBlockWaits : Prop := ∀ s : State, s.inputs = [] → step s = .next s

/-- 10_state.md R32: after reset every register is 0, HWADDR_CFG reads HW_ADDR, and a DECODE issued at once
changes no register. -/
def Obligations.ResetStateIsAllZero : Prop :=
  let s := State.reset
  (s.seqIn = 0 ∧ s.rssiIn = 0 ∧ s.bwIn = 0 ∧ s.sfIn = 0 ∧ s.crIn = 0 ∧ s.tlenIn = 0) ∧
  s.freqIn = 0 ∧ (∀ i : Fin 16, s.textIn[i] = 0) ∧ (∀ i : Fin 32, s.frame[i] = 0) ∧
  (s.rssiUpOut = 0 ∧ s.rssiDnOut = 0 ∧ s.seqOut = 0 ∧ s.bwOut = 0 ∧ s.sfOut = 0 ∧ s.crOut = 0 ∧
    s.tlenOut = 0) ∧
  s.freqOut = 0 ∧ (∀ i : Fin 6, s.hwaddrOut[i] = 0) ∧ (∀ i : Fin 16, s.textOut[i] = 0) ∧ s.status = 0 ∧
  (∀ i : Fin 6, exec (.rd (BitVec.ofNat 8 (0x08 + i.val))) s = .next (answered s (zext32 Config.hwAddr[i]))) ∧
  exec .decode s = .next (answered s 0#32)

/-- 70_reset_and_hazards.md R150: the reset event takes every register to its value after reset, whatever
it held. That the moves still to come stay is the model's choice (log 3), and so is that there is no latest
response any more (log 2). -/
def Obligations.ResetEventClearsTheBlock : Prop :=
  ∀ (s : State) (rest : List HostInput), s.inputs = .reset :: rest →
    step s = .next { State.reset with inputs := rest, response := none }

/-- 70_reset_and_hazards.md R151: a BUILD issued directly after reset succeeds and gives the frame of zeros
with HW_ADDR in it. -/
def Obligations.BuildAfterResetGivesTheAddressFrame : Prop :=
  ∃ t, exec .build State.reset = .next t ∧ t.response = some ⟨0x00#8, 0#32⟩ ∧
    ∀ i : Fin 32, t.frame[i] =
      if h : 2 ≤ i.val ∧ i.val ≤ 7 then Config.hwAddr[i.val - 2]'(by omega) else 0x00#8

/-- 60_exceptions.md R141: no sequence of moves makes the block stop, and every request gets an answer, with
one of the four codes and `rdata` 0 on an error (30_encoding.md R74). -/
def Obligations.BlockNeverStops : Prop :=
  (∀ s : State, NeverStops s) ∧
  ∀ (s : State) (q : Request) (rest : List HostInput), s.inputs = .request q :: rest →
    ∃ t r, step s = .next t ∧ t.inputs = rest ∧ t.response = some r ∧
      r.status ∈ [0x00#8, 0x01#8, 0x02#8, 0x03#8] ∧ (r.status ≠ 0x00#8 → r.rdata = 0#32)

/-- The invariant holds at reset. -/
def Obligations.InvariantHoldsAtReset : Prop := State.reset.Inv

/-- Every step keeps the invariant: the hardwired bits of STATUS are 0 (10_state.md R23), TLEN_OUT is the
length of the text in TEXT_OUT (41_decode.md R103), and the latest response is one the block can give
(30_encoding.md R74). -/
def Obligations.EveryStepKeepsTheInvariant : Prop :=
  ∀ s t : State, s.Inv → step s = .next t → t.Inv

/-! ### NOP and CLRERR -/

/-- 43_control.md R120: NOP responds `(0x00, 0)` and changes no register; `0x00rr` with `rr` not 0 is not
NOP. -/
def Obligations.NopOnlyResponds : Prop :=
  (∀ s : State, exec .nop s = .next (answered s 0#32)) ∧
  ∀ (r : Byte) (v : Word32),
    if r = 0x00#8 then decode ⟨0x00#8 ++ r, v⟩ = .ok .nop
    else ∃ why, decode ⟨0x00#8 ++ r, v⟩ = .error why

/-- 43_control.md R121: CLRERR makes STATUS 0, responds `(0x00, 0)`, and changes nothing else. -/
def Obligations.ClrerrClearsTheStickyBits : Prop :=
  (∀ s : State, exec .clrerr s =
    .next { s with status := 0x00#8, response := some { status := 0x00#8, rdata := 0#32 } }) ∧
  ∀ v : Word32, decode ⟨0x0300#16, v⟩ = .ok .clrerr

/-! ### BUILD -/

/-- 40_build.md R90, R91: with TLEN_IN at most 15, BUILD leaves in FRAME what `build_beacon` gives for the
operands, responds OK and changes nothing else; otherwise it raises PayloadTooLong. -/
def Obligations.BuildRefinesBuildBeacon : Prop :=
  (∀ (p : Params) (s : State), s.tlenIn.toNat ≤ 15 →
    ∃ f, buildBeacon p s.seqIn (s.textIn.toList.take s.tlenIn.toNat)
        ⟨s.freqIn, s.bwIn, s.sfIn, s.crIn, s.rssiIn⟩ = some f ∧
      s.buildCommand p = answered { s with frame := f } 0#32) ∧
  (∀ (p : Params) (s : State), 15 < s.tlenIn.toNat → s.buildCommand p = failedWith s 0x01#8 0x01#8) ∧
  (∀ s : State, s.tlenIn.toNat ≤ 15 →
    ∃ f, buildBeacon params s.seqIn (s.textIn.toList.take s.tlenIn.toNat)
        ⟨s.freqIn, s.bwIn, s.sfIn, s.crIn, s.rssiIn⟩ = some f ∧
      exec .build s = .next (answered { s with frame := f } 0#32)) ∧
  (∀ s : State, 15 < s.tlenIn.toNat → exec .build s = .next (failedWith s 0x01#8 0x01#8)) ∧
  ∀ v : Word32, decode ⟨0x0100#16, v⟩ = .ok .build

/-- 30_encoding.md R61, R66, 40_build.md R93, R94: the 32 bytes of a built frame, each from its operand or
parameter, `frequency` under either byte order. -/
def Obligations.BuiltFrameByteByByte : Prop :=
  ∀ (p : Params) (s : State), s.tlenIn.toNat ≤ 15 →
    let f := (s.buildCommand p).frame
    f[0] = 0x00#8 ∧ f[1] = s.rssiIn ∧ (∀ i : Fin 6, f[2 + i.val] = p.hwAddr[i]) ∧
    (p.byteOrder = .le →
      f[8] = s.freqIn.extractLsb 7 0 ∧ f[9] = s.freqIn.extractLsb 15 8 ∧
      f[10] = s.freqIn.extractLsb 23 16 ∧ f[11] = s.freqIn.extractLsb 31 24) ∧
    (p.byteOrder = .be →
      f[8] = s.freqIn.extractLsb 31 24 ∧ f[9] = s.freqIn.extractLsb 23 16 ∧
      f[10] = s.freqIn.extractLsb 15 8 ∧ f[11] = s.freqIn.extractLsb 7 0) ∧
    f[12] = s.seqIn ∧ f[13] = s.bwIn ∧ f[14] = s.sfIn ∧ f[15] = s.crIn ∧
    ∀ i : Fin 16, f[16 + i.val] = if i.val < s.tlenIn.toNat then s.textIn[i] else 0x00#8

/-- 40_build.md R92: BUILD fails exactly when TLEN_IN, unsigned, is above 15; it then sets STATUS.PTL,
responds `(0x01, 0)` and leaves everything else, FRAME included, as it was. -/
def Obligations.BuildRejectsALongText : Prop :=
  ∀ s : State,
    (16 ≤ s.tlenIn.toNat → exec .build s = .next (failedWith s 0x01#8 0x01#8)) ∧
    (s.tlenIn.toNat ≤ 15 → ∃ t, exec .build s = .next t ∧ t.response = some ⟨0x00#8, 0#32⟩ ∧
      t.status = s.status ∧ t.frame[31] = 0x00#8 ∧
      (∀ i : Fin 15, s.tlenIn = 15#8 → t.frame[16 + i.val] = s.textIn[i.val]) ∧
      ∀ i : Fin 16, s.tlenIn = 0#8 → t.frame[16 + i.val] = 0x00#8)

/-- 40_build.md R95: whether BUILD succeeds and the frame it leaves depend on the 23 operand registers and
the parameters alone. -/
def Obligations.BuildDependsOnOperandsOnly : Prop :=
  ∀ (p : Params) (s t : State), SameOperands s t →
    (s.buildCommand p).response = (t.buildCommand p).response ∧
    ((s.buildCommand p).response = some ⟨0x00#8, 0#32⟩ →
      (s.buildCommand p).frame = (t.buildCommand p).frame)

/-! ### DECODE -/

/-- 41_decode.md R101: DECODE leaves `decode_beacon` of FRAME in the result registers, responds OK and
changes nothing else, under either byte order. -/
def Obligations.DecodeRefinesDecodeBeacon : Prop :=
  (∀ (p : Params) (s : State),
    let d := decodeBeacon p.byteOrder s.frame
    s.decodeCommand p = answered
      { s with
        rssiUpOut := d.1.rssiUp, rssiDnOut := d.1.rssiDown, hwaddrOut := d.1.hw, freqOut := d.1.freq,
        seqOut := d.1.seq, bwOut := d.1.bw, sfOut := d.1.sf, crOut := d.1.cr, textOut := d.1.tx,
        tlenOut := BitVec.ofNat 8 d.2 } 0#32) ∧
  (∀ s : State, exec .decode s = .next (s.decodeCommand params)) ∧
  ∀ v : Word32, decode ⟨0x0200#16, v⟩ = .ok .decode

/-- 30_encoding.md R61, R66, 41_decode.md R107: the result registers after DECODE, each from its bytes of
FRAME; FRAME, the operand registers and STATUS are as before. -/
def Obligations.DecodedRegistersByteByByte : Prop :=
  ∀ (p : Params) (s : State),
    let t := s.decodeCommand p
    t.rssiUpOut = s.frame[0] ∧ t.rssiDnOut = s.frame[1] ∧
    (∀ i : Fin 6, t.hwaddrOut[i] = s.frame[2 + i.val]) ∧
    (p.byteOrder = .le → t.freqOut.toNat =
      s.frame[11].toNat * 2 ^ 24 + s.frame[10].toNat * 2 ^ 16 + s.frame[9].toNat * 2 ^ 8 +
        s.frame[8].toNat) ∧
    (p.byteOrder = .be → t.freqOut.toNat =
      s.frame[8].toNat * 2 ^ 24 + s.frame[9].toNat * 2 ^ 16 + s.frame[10].toNat * 2 ^ 8 +
        s.frame[11].toNat) ∧
    t.seqOut = s.frame[12] ∧ t.bwOut = s.frame[13] ∧ t.sfOut = s.frame[14] ∧ t.crOut = s.frame[15] ∧
    (∀ i : Fin 16, t.textOut[i] = s.frame[16 + i.val]) ∧ t.tlenOut.toNat = textLen t.textOut ∧
    SameOperands t s ∧ t.frame = s.frame ∧ t.status = s.status ∧ t.response = some ⟨0x00#8, 0#32⟩

/-- 41_decode.md R103: `text_len` is the least index that holds 0x00, and 16 if none does. -/
def Obligations.TextLengthIsTheFirstZero : Prop :=
  ∀ tx : Vector Byte 16,
    (∀ i : Fin 16, (∀ j : Fin 16, j < i → tx[j] ≠ 0x00#8) → tx[i] = 0x00#8 → textLen tx = i.val) ∧
    ((∀ j : Fin 16, tx[j] ≠ 0x00#8) → textLen tx = 16)

/-! ### RD and WR -/

/-- 42_register_access.md R110, 10_state.md R30: RD of each implemented index answers that register, 8-bit
registers zero-extended, STATUS with its hardwired bits 0, and changes no register; RD of a reserved index
sets STATUS.IREG, answers `(0x03, 0)` and changes nothing else. -/
def Obligations.ReadAnswersEveryRegister : Prop :=
  (∀ s : State,
    exec (.rd 0x00#8) s = .next (answered s (s.seqIn.setWidth 32)) ∧
    exec (.rd 0x01#8) s = .next (answered s (s.rssiIn.setWidth 32)) ∧
    exec (.rd 0x02#8) s = .next (answered s (s.bwIn.setWidth 32)) ∧
    exec (.rd 0x03#8) s = .next (answered s (s.sfIn.setWidth 32)) ∧
    exec (.rd 0x04#8) s = .next (answered s (s.crIn.setWidth 32)) ∧
    exec (.rd 0x05#8) s = .next (answered s (s.tlenIn.setWidth 32)) ∧
    exec (.rd 0x06#8) s = .next (answered s s.freqIn) ∧
    (∀ i : Fin 6, exec (.rd (BitVec.ofNat 8 (0x08 + i.val))) s =
      .next (answered s (Config.hwAddr[i].setWidth 32))) ∧
    exec (.rd 0x0E#8) s = .next (answered s ((s.status &&& 0x07#8).setWidth 32)) ∧
    (∀ i : Fin 16, exec (.rd (BitVec.ofNat 8 (0x10 + i.val))) s =
      .next (answered s (s.textIn[i].setWidth 32))) ∧
    (∀ i : Fin 32, exec (.rd (BitVec.ofNat 8 (0x20 + i.val))) s =
      .next (answered s (s.frame[i].setWidth 32))) ∧
    exec (.rd 0x40#8) s = .next (answered s (s.rssiUpOut.setWidth 32)) ∧
    exec (.rd 0x41#8) s = .next (answered s (s.rssiDnOut.setWidth 32)) ∧
    exec (.rd 0x42#8) s = .next (answered s (s.seqOut.setWidth 32)) ∧
    exec (.rd 0x43#8) s = .next (answered s (s.bwOut.setWidth 32)) ∧
    exec (.rd 0x44#8) s = .next (answered s (s.sfOut.setWidth 32)) ∧
    exec (.rd 0x45#8) s = .next (answered s (s.crOut.setWidth 32)) ∧
    exec (.rd 0x46#8) s = .next (answered s (s.tlenOut.setWidth 32)) ∧
    exec (.rd 0x47#8) s = .next (answered s s.freqOut) ∧
    (∀ i : Fin 6, exec (.rd (BitVec.ofNat 8 (0x48 + i.val))) s =
      .next (answered s (s.hwaddrOut[i].setWidth 32))) ∧
    (∀ i : Fin 16, exec (.rd (BitVec.ofNat 8 (0x50 + i.val))) s =
      .next (answered s (s.textOut[i].setWidth 32)))) ∧
  (∀ (s : State) (r : Byte), (r ∈ [0x07#8, 0x0F#8, 0x4E#8, 0x4F#8] ∨ 0x60 ≤ r.toNat) →
    exec (.rd r) s = .next (failedWith s 0x03#8 0x04#8)) ∧
  ∀ (r : Byte) (v : Word32), decode ⟨0x10#8 ++ r, v⟩ = .ok (.rd r)

/-- 42_register_access.md R111: WR to a writable index stores the data word, its low 8 bits for an 8-bit
register, answers `(0x00, 0)` and changes nothing else; in FRAME only the byte named changes. -/
def Obligations.WriteStoresTheNamedRegister : Prop :=
  (∀ (s : State) (v : Word32),
    let b : Byte := v.extractLsb 7 0
    exec (.wr 0x00#8 v) s = .next (answered { s with seqIn := b } 0#32) ∧
    exec (.wr 0x01#8 v) s = .next (answered { s with rssiIn := b } 0#32) ∧
    exec (.wr 0x02#8 v) s = .next (answered { s with bwIn := b } 0#32) ∧
    exec (.wr 0x03#8 v) s = .next (answered { s with sfIn := b } 0#32) ∧
    exec (.wr 0x04#8 v) s = .next (answered { s with crIn := b } 0#32) ∧
    exec (.wr 0x05#8 v) s = .next (answered { s with tlenIn := b } 0#32) ∧
    exec (.wr 0x06#8 v) s = .next (answered { s with freqIn := v } 0#32) ∧
    (∀ i : Fin 16, ∃ tx : Vector Byte 16,
      exec (.wr (BitVec.ofNat 8 (0x10 + i.val)) v) s = .next (answered { s with textIn := tx } 0#32) ∧
      ∀ j : Fin 16, tx[j] = if j = i then b else s.textIn[j]) ∧
    (∀ i : Fin 32, ∃ f : Frame,
      exec (.wr (BitVec.ofNat 8 (0x20 + i.val)) v) s = .next (answered { s with frame := f } 0#32) ∧
      ∀ j : Fin 32, memRead1 f j = if j = i then b else memRead1 s.frame j)) ∧
  (∀ (s : State) (r : Byte) (v : Word32),
    ¬ (r.toNat ≤ 0x06 ∨ (0x10 ≤ r.toNat ∧ r.toNat ≤ 0x3F)) →
    exec (.wr r v) s = .next (failedWith s 0x03#8 0x04#8)) ∧
  ∀ (r : Byte) (v : Word32), decode ⟨0x11#8 ++ r, v⟩ = .ok (.wr r v)

/-- 42_register_access.md R113: the indices on which RD and WR raise IllegalRegister, listed as the rule
lists them; the command then does nothing else. -/
def Obligations.IllegalRegisterCases : Prop :=
  (∀ (s : State) (r : Byte),
    (r ∈ [0x07#8, 0x0F#8, 0x4E#8, 0x4F#8] ∨ (0x60 ≤ r.toNat ∧ r.toNat ≤ 0xFF)) →
    exec (.rd r) s = .next (failedWith s 0x03#8 0x04#8) ∧
    ∀ v : Word32, exec (.wr r v) s = .next (failedWith s 0x03#8 0x04#8)) ∧
  ∀ (s : State) (r : Byte) (v : Word32),
    ((0x08 ≤ r.toNat ∧ r.toNat ≤ 0x0D) ∨ r = 0x0E#8 ∨ (0x40 ≤ r.toNat ∧ r.toNat ≤ 0x4D) ∨
      (0x50 ≤ r.toNat ∧ r.toNat ≤ 0x5F)) →
    exec (.wr r v) s = .next (failedWith s 0x03#8 0x04#8) ∧
    ∃ d, exec (.rd r) s = .next (answered s d)

/-- 10_state.md R33, 20_memory.md R49: after a successful WR to an index, RD of that index answers the value
written (its low 8 bits for an 8-bit register), and RD of any other index answers what it answered before. -/
def Obligations.WriteThenReadEachIndex : Prop :=
  ∀ (p : Params) (s : State) (r : Byte) (v : Word32),
    (r.toNat ≤ 0x06 ∨ (0x10 ≤ r.toNat ∧ r.toNat ≤ 0x3F)) →
    ((s.writeCommand r v).readCommand p r).response =
      some ⟨0x00#8, if r = 0x06#8 then v else v &&& 0xFF#32⟩ ∧
    ∀ r' : Byte, r' ≠ r →
      ((s.writeCommand r v).readCommand p r').response = (s.readCommand p r').response

/-- 10_state.md R30, R31: index and name determine each other, and the reserved indices are exactly 0x07,
0x0F, 0x4E, 0x4F and 0x60 to 0xFF. -/
def Obligations.RegisterMapIsABijection : Prop :=
  (∀ r : Reg, regOfIndex (regIndex r) = some r) ∧
  (∀ (b : Byte) (r : Reg), regOfIndex b = some r → regIndex r = b) ∧
  ∀ b : Byte, regOfIndex b = none ↔ (b ∈ [0x07#8, 0x0F#8, 0x4E#8, 0x4F#8] ∨ 0x60 ≤ b.toNat)

/-! ### The frame buffer and the layout -/

/-- 20_memory.md R42: `MemWrite` writes exactly the bytes named, in the order of BYTE_ORDER, and `MemRead`
just after gives the value back. -/
def Obligations.FrameWritesReadBack : Prop :=
  (∀ (f : Frame) (a : Fin 32) (v : Byte),
    memRead1 (memWrite1 f a v) a = v ∧ ∀ j : Fin 32, j ≠ a → memRead1 (memWrite1 f a v) j = memRead1 f j) ∧
  ∀ (o : ByteOrder) (f : Frame) (a : Fin 29) (v : Word32),
    let g := memWrite4 o f a v
    memRead4 o g a = v ∧
    (o = .le →
      g[a.val] = v.extractLsb 7 0 ∧ g[a.val + 1] = v.extractLsb 15 8 ∧
      g[a.val + 2] = v.extractLsb 23 16 ∧ g[a.val + 3] = v.extractLsb 31 24) ∧
    (o = .be →
      g[a.val] = v.extractLsb 31 24 ∧ g[a.val + 1] = v.extractLsb 23 16 ∧
      g[a.val + 2] = v.extractLsb 15 8 ∧ g[a.val + 3] = v.extractLsb 7 0) ∧
    ∀ j : Fin 32, (j.val < a.val ∨ a.val + 4 ≤ j.val) → memRead1 g j = memRead1 f j

/-- 30_encoding.md R69: `pack` and `unpack` are inverse to each other, under either byte order. -/
def Obligations.PackAndUnpackAreInverse : Prop :=
  (∀ (o : ByteOrder) (r : FieldRecord), unpack o (pack o r) = r) ∧
  ∀ (o : ByteOrder) (b : Frame), pack o (unpack o b) = b

/-- 30_encoding.md R63: a signed field's byte is two's complement: `sint_8` and `byte_of_sint` are inverse,
with the values the rule lists. -/
def Obligations.SignedBytesAreTwosComplement : Prop :=
  (∀ n : Int, -128 ≤ n → n ≤ 127 → sint8 (byteOfSint n) = n ∧ ((byteOfSint n).toNat : Int) = n % 256) ∧
  (∀ b : Byte, byteOfSint (sint8 b) = b ∧ -128 ≤ sint8 b ∧ sint8 b ≤ 127) ∧
  byteOfSint 0 = 0x00#8 ∧ byteOfSint (-1) = 0xFF#8 ∧ byteOfSint (-42) = 0xD6#8 ∧
  byteOfSint 127 = 0x7F#8 ∧ byteOfSint (-128) = 0x80#8

/-- 30_encoding.md R67: the example patterns of the rule read as the numbers it gives. -/
def Obligations.ExampleFrequenciesReadAsStated : Prop :=
  binary32Read 0x4464C000#32 = .normal 915 ∧ binary32Read 0x43D88000#32 = .normal 433 ∧
  binary32Read 0x00000000#32 = .zero false ∧ binary32Read 0x80000000#32 = .zero true ∧
  binary32OfDecimal false 8681 1 = 0x44590666#32 ∧ binary32OfDecimal false 9150 1 = 0x4464C000#32

/-! ### Round trips -/

/-- 41_decode.md R104: BUILD with TLEN_IN at most 15, then any moves after which FRAME is as BUILD left it,
then DECODE: the result registers are the operands BUILD read, HW_ADDR and 0. The same of BUILD and DECODE
back to back under every parameter, and of the two pure functions. -/
def Obligations.BuildThenDecodeRecoversTheFields : Prop :=
  (∀ (s u : State) (mid : List HostInput), s.tlenIn.toNat ≤ 15 →
    serve (requestsOf [.build] ++ mid) s = .next u → u.frame = (s.buildCommand params).frame →
    ∃ t, serve (requestsOf [.decode]) u = .next t ∧
      t.rssiUpOut = 0x00#8 ∧ t.rssiDnOut = s.rssiIn ∧ t.hwaddrOut = Config.hwAddr ∧ t.freqOut = s.freqIn ∧
      t.seqOut = s.seqIn ∧ t.bwOut = s.bwIn ∧ t.sfOut = s.sfIn ∧ t.crOut = s.crIn ∧
      (∀ i : Fin 16, t.textOut[i] = if i.val < s.tlenIn.toNat then s.textIn[i] else 0x00#8) ∧
      (nulFreeText s = true → t.tlenOut = s.tlenIn) ∧
      ∀ i : Fin 16, i.val < s.tlenIn.toNat → s.textIn[i] = 0x00#8 →
        (∀ j : Fin 16, j < i → s.textIn[j] ≠ 0x00#8) → t.tlenOut.toNat = i.val) ∧
  (∀ (p : Params) (s : State), s.tlenIn.toNat ≤ 15 →
    let t := (s.buildCommand p).decodeCommand p
    t.rssiUpOut = 0x00#8 ∧ t.rssiDnOut = s.rssiIn ∧ t.hwaddrOut = p.hwAddr ∧ t.freqOut = s.freqIn ∧
    t.seqOut = s.seqIn ∧ t.bwOut = s.bwIn ∧ t.sfOut = s.sfIn ∧ t.crOut = s.crIn ∧
    (∀ i : Fin 16, t.textOut[i] = if i.val < s.tlenIn.toNat then s.textIn[i] else 0x00#8) ∧
    (nulFreeText s = true → t.tlenOut = s.tlenIn) ∧
    ∀ i : Fin 16, i.val < s.tlenIn.toNat → s.textIn[i] = 0x00#8 →
      (∀ j : Fin 16, j < i → s.textIn[j] ≠ 0x00#8) → t.tlenOut.toNat = i.val) ∧
  ∀ (p : Params) (seq : Byte) (text : List Byte) (radio : RadioState) (h : text.length ≤ 15),
    ∃ f, buildBeacon p seq text radio = some f ∧
      (decodeBeacon p.byteOrder f).1 =
        { rssiUp := 0x00#8, rssiDown := radio.rssi, hw := p.hwAddr, freq := radio.freq, seq := seq,
          bw := radio.bw, sf := radio.sf, cr := radio.cr, tx := padText text h } ∧
      (padText text h).toList = text ++ List.replicate (16 - text.length) 0x00#8 ∧
      (0x00#8 ∉ text → (decodeBeacon p.byteOrder f).2 = text.length)

/-- 41_decode.md R106: DECODE, the results copied into the operands, BUILD: the BUILD answers OK with the old
frame again if and only if the frame is one this endpoint could have built; without a terminator it raises
PayloadTooLong (there is then no new frame, so the equivalence asks for OK as well); and the nine results
pack to the frame. -/
def Obligations.DecodeThenBuildReproducesOwnFrames : Prop :=
  ∀ (p : Params) (s : State),
    let d := s.decodeCommand p
    let c : State :=
      { d with
        rssiIn := d.rssiDnOut, freqIn := d.freqOut, seqIn := d.seqOut, bwIn := d.bwOut, sfIn := d.sfOut,
        crIn := d.crOut, tlenIn := d.tlenOut, textIn := d.textOut }
    let e := c.buildCommand p
    ((e.response = some ⟨0x00#8, 0#32⟩ ∧ e.frame = s.frame) ↔
      (s.frame[0] = 0x00#8 ∧ (∀ i : Fin 6, s.frame[2 + i.val] = p.hwAddr[i]) ∧ textLen d.textOut ≤ 15 ∧
        ∀ i : Fin 16, textLen d.textOut ≤ i.val → s.frame[16 + i.val] = 0x00#8)) ∧
    (textLen d.textOut = 16 → e = failedWith c 0x01#8 0x01#8) ∧
    pack p.byteOrder ⟨d.rssiUpOut, d.rssiDnOut, d.hwaddrOut, d.freqOut, d.seqOut, d.bwOut, d.sfOut, d.crOut,
      d.textOut⟩ = s.frame

/-- LDFRAME of 32 bytes, then DECODE: FRAME is those bytes, the results are `decode_beacon` of them under
`LE`, the byte order of this hardware (00_scope.md R4, log 5), and no operand register has changed
(30_encoding.md section B.4, 41_decode.md section 2). -/
def Obligations.LoadedFrameDecodes : Prop :=
  ∀ (s : State) (b : Frame),
    ∃ t, serve (loadFrame b ++ requestsOf [.decode]) s = .next t ∧ t.frame = b ∧
      (⟨t.rssiUpOut, t.rssiDnOut, t.hwaddrOut, t.freqOut, t.seqOut, t.bwOut, t.sfOut, t.crOut,
        t.textOut⟩ : FieldRecord) = (decodeBeacon .le b).1 ∧
      t.tlenOut = BitVec.ofNat 8 (decodeBeacon .le b).2 ∧ SameOperands t s ∧ t.status = s.status ∧
      t.inputs = s.inputs

/-- One beacon attempt (LDRADIO, LDTEXT, BEACON) from any state does what `build_beacon` says: the frame in
FRAME and the answer `(0x00, 0)`, or FRAME as it was, STATUS.PTL set and the answer `(0x01, 0)`,
PayloadTooLong (40_build.md sections 1 and 2). -/
def Obligations.BeaconAttemptRefinesBuildBeacon : Prop :=
  ∀ (s : State) (seq : Byte) (text : List Byte) (radio : RadioState), text.length ≤ 255 →
    ∃ t, serve (beaconAttempt seq text radio) s = .next t ∧ readyToBuild t seq text radio = true ∧
      SameResults t s ∧ t.inputs = s.inputs ∧
      match buildBeacon params seq text radio with
      | some f => t.frame = f ∧ t.status = s.status ∧ t.response = some ⟨0x00#8, 0#32⟩ ∧
          mayTransmit t = true
      | none => t.frame = s.frame ∧ t.status = s.status ||| 0x01#8 ∧ t.response = some ⟨0x01#8, 0#32⟩ ∧
          mayTransmit t = false

/-- Moves without BUILD, WR to FRAME and reset leave FRAME alone, and the RD of byte `k` in the middle of a
fetch of the frame answers byte `k`, whatever clean moves stand before it. The premise shuts out every BUILD,
a failing one too, as the table of 70_reset_and_hazards.md section 3 has it ("issue no BUILD"); section 5
(R160) names only a successful BUILD, and the narrower reading is the model's choice (log 10). That a failing
BUILD leaves FRAME alone is `Obligations.BuildRejectsALongText`. -/
def Obligations.CleanFetchReadsOneFrame : Prop :=
  ∀ (s : State) (ins : List HostInput) (k : Fin 32), cleanFetch ins = true →
    ∃ t, serve (ins ++ requestsOf [.rd (BitVec.ofNat 8 (0x20 + k.val))]) s = .next t ∧
      t.frame = s.frame ∧ t.response = some ⟨0x00#8, s.frame[k].setWidth 32⟩ ∧ t.inputs = s.inputs

/-- 70_reset_and_hazards.md R161: moves without DECODE and reset leave the result registers alone; moves
without WR to an operand register and without reset leave the operand registers alone. -/
def Obligations.OtherMovesKeepResultsAndOperands : Prop :=
  ∀ (s : State) (ins : List HostInput), ∃ t, serve ins s = .next t ∧
    (keepsResults ins = true → SameResults t s) ∧ (keepsOperands ins = true → SameOperands t s)

/-- 70_reset_and_hazards.md R157: attempt `k` carries `(SEQ_INIT + k) mod 256`, so the number returns after
256 attempts, and a BUILD of that attempt puts it at offset 12. -/
def Obligations.SequenceNumbersAdvanceModulo256 : Prop :=
  ∀ seqInit : Byte,
    (∀ k : Nat, (seqOfAttempt seqInit k).toNat = (seqInit.toNat + k) % 256) ∧
    (∀ k : Nat, seqOfAttempt seqInit (k + 256) = seqOfAttempt seqInit k) ∧
    ∀ (s : State) (k : Nat) (text : List Byte) (radio : RadioState), text.length ≤ 15 →
      ∃ t, serve (beaconAttempt (seqOfAttempt seqInit k) text radio) s = .next t ∧
        t.frame[12] = seqOfAttempt seqInit k

/-! ### What commands leave alone -/

/-- 10_state.md R17 and the table of R29: an operand register changes only by a WR to an operand index,
FRAME only by BUILD or a WR to a FRAME index, a result register only by DECODE, and STATUS only by an error
or CLRERR. -/
def Obligations.EachGroupHasItsWriters : Prop :=
  ∀ (i : Instr) (s : State), ∃ t, exec i s = .next t ∧
    (writesOperands i = false → SameOperands t s) ∧ (writesFrame i = false → t.frame = s.frame) ∧
    (writesResults i = false → SameResults t s) ∧
    ((∃ d, t.response = some ⟨0x00#8, d⟩) → i ≠ .clrerr → t.status = s.status) ∧ t.inputs = s.inputs

/-- 60_exceptions.md R136, R138: a request that is answered with an error code changes one STATUS bit, the
bit of that code, and nothing else of the block. -/
def Obligations.FailingRequestChangesOnlyItsBit : Prop :=
  ∀ (s t : State) (q : Request) (rest : List HostInput) (code : Byte) (d : Word32),
    s.inputs = .request q :: rest → step s = .next t → t.response = some ⟨code, d⟩ → code ≠ 0x00#8 →
    code.toNat ≤ 3 ∧ t = failedWith { s with inputs := rest } code (bitOfCode code)

/-- 60_exceptions.md R139, 10_state.md R23: a request that is not CLRERR clears no sticky bit; it sets the
bit of the error it answers, if it answers one, and CLRERR clears all three. -/
def Obligations.StickyBitsAccumulateUntilClrerr : Prop :=
  ∀ (s : State) (q : Request) (rest : List HostInput), s.inputs = .request q :: rest →
    ∃ t r, step s = .next t ∧ t.response = some r ∧
      if decode q = .ok .clrerr then t.status = 0x00#8 else t.status = s.status ||| bitOfCode r.status

/-- 20_memory.md R47: every command, succeeding or failing, is idempotent, so is the error entry of a
reserved word, and RD of an implemented register
changes no register. -/
def Obligations.CommandsAreIdempotent : Prop :=
  (∀ (i : Instr) (s t : State), exec i s = .next t → exec i t = .next t) ∧
  (∀ (s : State) (e : CommandError), (s.raise e).raise e = s.raise e) ∧
  ∀ (s : State) (r : Byte), regOfIndex r ≠ none → ∃ d, exec (.rd r) s = .next (answered s d)

/-- 10_state.md R28: what a command does and answers does not depend on earlier answers or on what the host
will ask later. -/
def Obligations.NoHiddenStateIsRead : Prop :=
  ∀ (i : Instr) (s t : State) (ins : List HostInput) (r : Option Response), exec i s = .next t →
    exec i { s with inputs := ins, response := r } = .next { t with inputs := ins }

/-! ### The assembler notation -/

/-- 30_encoding.md R79, R80: lines written as in the spec's listings assemble to the requests printed beside
them (95_test_vectors.md P1, P4, RW1). -/
def Obligations.ListingLinesAssemble : Prop :=
  assemble (.wr (.named .rssiIn) (.neg 42)) = some [⟨0x1101#16, 0xFFFFFFD6#32⟩] ∧
  assemble (.wr (.named .freqIn) (.f32 false 9150 1)) = some [⟨0x1106#16, 0x4464C000#32⟩] ∧
  assemble (.wr (.named (.textIn 0)) (.char 'h')) = some [⟨0x1110#16, 0x00000068#32⟩] ∧
  assemble (.rd (.index 0x2C)) = some [⟨0x102C#16, 0#32⟩] ∧
  assemble (.beacon (.num 256)) = some [⟨0x1100#16, 0x00000100#32⟩, ⟨0x0100#16, 0#32⟩] ∧
  assemble (.rd (.index 256)) = none
end

