-- ==== Sys2Proof/Laws/State.lean ====
section
/-! SUPPORT. One lemma per field per update of the state, each by rfl, so that later proofs unfold no
record update. -/

namespace Sys2Proof.Machine

open Sys2Proof

variable (s : State)

/-! `State.respond` -/

@[simp] theorem State.respond_seqIn (c : Byte) (d : Word32) : (s.respond c d).seqIn = s.seqIn := rfl
@[simp] theorem State.respond_rssiIn (c : Byte) (d : Word32) : (s.respond c d).rssiIn = s.rssiIn := rfl
@[simp] theorem State.respond_bwIn (c : Byte) (d : Word32) : (s.respond c d).bwIn = s.bwIn := rfl
@[simp] theorem State.respond_sfIn (c : Byte) (d : Word32) : (s.respond c d).sfIn = s.sfIn := rfl
@[simp] theorem State.respond_crIn (c : Byte) (d : Word32) : (s.respond c d).crIn = s.crIn := rfl
@[simp] theorem State.respond_tlenIn (c : Byte) (d : Word32) : (s.respond c d).tlenIn = s.tlenIn := rfl
@[simp] theorem State.respond_freqIn (c : Byte) (d : Word32) : (s.respond c d).freqIn = s.freqIn := rfl
@[simp] theorem State.respond_textIn (c : Byte) (d : Word32) : (s.respond c d).textIn = s.textIn := rfl
@[simp] theorem State.respond_frame (c : Byte) (d : Word32) : (s.respond c d).frame = s.frame := rfl
@[simp] theorem State.respond_rssiUpOut (c : Byte) (d : Word32) :
    (s.respond c d).rssiUpOut = s.rssiUpOut := rfl
@[simp] theorem State.respond_rssiDnOut (c : Byte) (d : Word32) :
    (s.respond c d).rssiDnOut = s.rssiDnOut := rfl
@[simp] theorem State.respond_seqOut (c : Byte) (d : Word32) : (s.respond c d).seqOut = s.seqOut := rfl
@[simp] theorem State.respond_bwOut (c : Byte) (d : Word32) : (s.respond c d).bwOut = s.bwOut := rfl
@[simp] theorem State.respond_sfOut (c : Byte) (d : Word32) : (s.respond c d).sfOut = s.sfOut := rfl
@[simp] theorem State.respond_crOut (c : Byte) (d : Word32) : (s.respond c d).crOut = s.crOut := rfl
@[simp] theorem State.respond_tlenOut (c : Byte) (d : Word32) : (s.respond c d).tlenOut = s.tlenOut := rfl
@[simp] theorem State.respond_freqOut (c : Byte) (d : Word32) : (s.respond c d).freqOut = s.freqOut := rfl
@[simp] theorem State.respond_hwaddrOut (c : Byte) (d : Word32) :
    (s.respond c d).hwaddrOut = s.hwaddrOut := rfl
@[simp] theorem State.respond_textOut (c : Byte) (d : Word32) : (s.respond c d).textOut = s.textOut := rfl
@[simp] theorem State.respond_status (c : Byte) (d : Word32) : (s.respond c d).status = s.status := rfl
@[simp] theorem State.respond_inputs (c : Byte) (d : Word32) : (s.respond c d).inputs = s.inputs := rfl
@[simp] theorem State.respond_response (c : Byte) (d : Word32) :
    (s.respond c d).response = some { status := c, rdata := d } := rfl

/-! `State.respondOk` -/

@[simp] theorem State.respondOk_seqIn (d : Word32) : (s.respondOk d).seqIn = s.seqIn := rfl
@[simp] theorem State.respondOk_rssiIn (d : Word32) : (s.respondOk d).rssiIn = s.rssiIn := rfl
@[simp] theorem State.respondOk_bwIn (d : Word32) : (s.respondOk d).bwIn = s.bwIn := rfl
@[simp] theorem State.respondOk_sfIn (d : Word32) : (s.respondOk d).sfIn = s.sfIn := rfl
@[simp] theorem State.respondOk_crIn (d : Word32) : (s.respondOk d).crIn = s.crIn := rfl
@[simp] theorem State.respondOk_tlenIn (d : Word32) : (s.respondOk d).tlenIn = s.tlenIn := rfl
@[simp] theorem State.respondOk_freqIn (d : Word32) : (s.respondOk d).freqIn = s.freqIn := rfl
@[simp] theorem State.respondOk_textIn (d : Word32) : (s.respondOk d).textIn = s.textIn := rfl
@[simp] theorem State.respondOk_frame (d : Word32) : (s.respondOk d).frame = s.frame := rfl
@[simp] theorem State.respondOk_rssiUpOut (d : Word32) : (s.respondOk d).rssiUpOut = s.rssiUpOut := rfl
@[simp] theorem State.respondOk_rssiDnOut (d : Word32) : (s.respondOk d).rssiDnOut = s.rssiDnOut := rfl
@[simp] theorem State.respondOk_seqOut (d : Word32) : (s.respondOk d).seqOut = s.seqOut := rfl
@[simp] theorem State.respondOk_bwOut (d : Word32) : (s.respondOk d).bwOut = s.bwOut := rfl
@[simp] theorem State.respondOk_sfOut (d : Word32) : (s.respondOk d).sfOut = s.sfOut := rfl
@[simp] theorem State.respondOk_crOut (d : Word32) : (s.respondOk d).crOut = s.crOut := rfl
@[simp] theorem State.respondOk_tlenOut (d : Word32) : (s.respondOk d).tlenOut = s.tlenOut := rfl
@[simp] theorem State.respondOk_freqOut (d : Word32) : (s.respondOk d).freqOut = s.freqOut := rfl
@[simp] theorem State.respondOk_hwaddrOut (d : Word32) : (s.respondOk d).hwaddrOut = s.hwaddrOut := rfl
@[simp] theorem State.respondOk_textOut (d : Word32) : (s.respondOk d).textOut = s.textOut := rfl
@[simp] theorem State.respondOk_status (d : Word32) : (s.respondOk d).status = s.status := rfl
@[simp] theorem State.respondOk_inputs (d : Word32) : (s.respondOk d).inputs = s.inputs := rfl
@[simp] theorem State.respondOk_response (d : Word32) :
    (s.respondOk d).response = some { status := okCode, rdata := d } := rfl

/-! `State.setSticky` -/

@[simp] theorem State.setSticky_seqIn (e : CommandError) : (s.setSticky e).seqIn = s.seqIn := rfl
@[simp] theorem State.setSticky_rssiIn (e : CommandError) : (s.setSticky e).rssiIn = s.rssiIn := rfl
@[simp] theorem State.setSticky_bwIn (e : CommandError) : (s.setSticky e).bwIn = s.bwIn := rfl
@[simp] theorem State.setSticky_sfIn (e : CommandError) : (s.setSticky e).sfIn = s.sfIn := rfl
@[simp] theorem State.setSticky_crIn (e : CommandError) : (s.setSticky e).crIn = s.crIn := rfl
@[simp] theorem State.setSticky_tlenIn (e : CommandError) : (s.setSticky e).tlenIn = s.tlenIn := rfl
@[simp] theorem State.setSticky_freqIn (e : CommandError) : (s.setSticky e).freqIn = s.freqIn := rfl
@[simp] theorem State.setSticky_textIn (e : CommandError) : (s.setSticky e).textIn = s.textIn := rfl
@[simp] theorem State.setSticky_frame (e : CommandError) : (s.setSticky e).frame = s.frame := rfl
@[simp] theorem State.setSticky_rssiUpOut (e : CommandError) : (s.setSticky e).rssiUpOut = s.rssiUpOut := rfl
@[simp] theorem State.setSticky_rssiDnOut (e : CommandError) : (s.setSticky e).rssiDnOut = s.rssiDnOut := rfl
@[simp] theorem State.setSticky_seqOut (e : CommandError) : (s.setSticky e).seqOut = s.seqOut := rfl
@[simp] theorem State.setSticky_bwOut (e : CommandError) : (s.setSticky e).bwOut = s.bwOut := rfl
@[simp] theorem State.setSticky_sfOut (e : CommandError) : (s.setSticky e).sfOut = s.sfOut := rfl
@[simp] theorem State.setSticky_crOut (e : CommandError) : (s.setSticky e).crOut = s.crOut := rfl
@[simp] theorem State.setSticky_tlenOut (e : CommandError) : (s.setSticky e).tlenOut = s.tlenOut := rfl
@[simp] theorem State.setSticky_freqOut (e : CommandError) : (s.setSticky e).freqOut = s.freqOut := rfl
@[simp] theorem State.setSticky_hwaddrOut (e : CommandError) : (s.setSticky e).hwaddrOut = s.hwaddrOut := rfl
@[simp] theorem State.setSticky_textOut (e : CommandError) : (s.setSticky e).textOut = s.textOut := rfl
@[simp] theorem State.setSticky_status (e : CommandError) :
    (s.setSticky e).status = s.status ||| e.stickyBit := rfl
@[simp] theorem State.setSticky_inputs (e : CommandError) : (s.setSticky e).inputs = s.inputs := rfl
@[simp] theorem State.setSticky_response (e : CommandError) : (s.setSticky e).response = s.response := rfl

/-! `State.raise` -/

@[simp] theorem State.raise_seqIn (e : CommandError) : (s.raise e).seqIn = s.seqIn := rfl
@[simp] theorem State.raise_rssiIn (e : CommandError) : (s.raise e).rssiIn = s.rssiIn := rfl
@[simp] theorem State.raise_bwIn (e : CommandError) : (s.raise e).bwIn = s.bwIn := rfl
@[simp] theorem State.raise_sfIn (e : CommandError) : (s.raise e).sfIn = s.sfIn := rfl
@[simp] theorem State.raise_crIn (e : CommandError) : (s.raise e).crIn = s.crIn := rfl
@[simp] theorem State.raise_tlenIn (e : CommandError) : (s.raise e).tlenIn = s.tlenIn := rfl
@[simp] theorem State.raise_freqIn (e : CommandError) : (s.raise e).freqIn = s.freqIn := rfl
@[simp] theorem State.raise_textIn (e : CommandError) : (s.raise e).textIn = s.textIn := rfl
@[simp] theorem State.raise_frame (e : CommandError) : (s.raise e).frame = s.frame := rfl
@[simp] theorem State.raise_rssiUpOut (e : CommandError) : (s.raise e).rssiUpOut = s.rssiUpOut := rfl
@[simp] theorem State.raise_rssiDnOut (e : CommandError) : (s.raise e).rssiDnOut = s.rssiDnOut := rfl
@[simp] theorem State.raise_seqOut (e : CommandError) : (s.raise e).seqOut = s.seqOut := rfl
@[simp] theorem State.raise_bwOut (e : CommandError) : (s.raise e).bwOut = s.bwOut := rfl
@[simp] theorem State.raise_sfOut (e : CommandError) : (s.raise e).sfOut = s.sfOut := rfl
@[simp] theorem State.raise_crOut (e : CommandError) : (s.raise e).crOut = s.crOut := rfl
@[simp] theorem State.raise_tlenOut (e : CommandError) : (s.raise e).tlenOut = s.tlenOut := rfl
@[simp] theorem State.raise_freqOut (e : CommandError) : (s.raise e).freqOut = s.freqOut := rfl
@[simp] theorem State.raise_hwaddrOut (e : CommandError) : (s.raise e).hwaddrOut = s.hwaddrOut := rfl
@[simp] theorem State.raise_textOut (e : CommandError) : (s.raise e).textOut = s.textOut := rfl
@[simp] theorem State.raise_status (e : CommandError) : (s.raise e).status = s.status ||| e.stickyBit := rfl
@[simp] theorem State.raise_inputs (e : CommandError) : (s.raise e).inputs = s.inputs := rfl
@[simp] theorem State.raise_response (e : CommandError) :
    (s.raise e).response = some { status := e.code, rdata := 0#32 } := rfl

/-! `State.clearSticky` -/

@[simp] theorem State.clearSticky_seqIn : (s.clearSticky).seqIn = s.seqIn := rfl
@[simp] theorem State.clearSticky_rssiIn : (s.clearSticky).rssiIn = s.rssiIn := rfl
@[simp] theorem State.clearSticky_bwIn : (s.clearSticky).bwIn = s.bwIn := rfl
@[simp] theorem State.clearSticky_sfIn : (s.clearSticky).sfIn = s.sfIn := rfl
@[simp] theorem State.clearSticky_crIn : (s.clearSticky).crIn = s.crIn := rfl
@[simp] theorem State.clearSticky_tlenIn : (s.clearSticky).tlenIn = s.tlenIn := rfl
@[simp] theorem State.clearSticky_freqIn : (s.clearSticky).freqIn = s.freqIn := rfl
@[simp] theorem State.clearSticky_textIn : (s.clearSticky).textIn = s.textIn := rfl
@[simp] theorem State.clearSticky_frame : (s.clearSticky).frame = s.frame := rfl
@[simp] theorem State.clearSticky_rssiUpOut : (s.clearSticky).rssiUpOut = s.rssiUpOut := rfl
@[simp] theorem State.clearSticky_rssiDnOut : (s.clearSticky).rssiDnOut = s.rssiDnOut := rfl
@[simp] theorem State.clearSticky_seqOut : (s.clearSticky).seqOut = s.seqOut := rfl
@[simp] theorem State.clearSticky_bwOut : (s.clearSticky).bwOut = s.bwOut := rfl
@[simp] theorem State.clearSticky_sfOut : (s.clearSticky).sfOut = s.sfOut := rfl
@[simp] theorem State.clearSticky_crOut : (s.clearSticky).crOut = s.crOut := rfl
@[simp] theorem State.clearSticky_tlenOut : (s.clearSticky).tlenOut = s.tlenOut := rfl
@[simp] theorem State.clearSticky_freqOut : (s.clearSticky).freqOut = s.freqOut := rfl
@[simp] theorem State.clearSticky_hwaddrOut : (s.clearSticky).hwaddrOut = s.hwaddrOut := rfl
@[simp] theorem State.clearSticky_textOut : (s.clearSticky).textOut = s.textOut := rfl
@[simp] theorem State.clearSticky_status : (s.clearSticky).status = 0x00#8 := rfl
@[simp] theorem State.clearSticky_inputs : (s.clearSticky).inputs = s.inputs := rfl
@[simp] theorem State.clearSticky_response : (s.clearSticky).response = s.response := rfl

/-! `State.issue` -/

@[simp] theorem State.issue_seqIn (ins : List HostInput) : (s.issue ins).seqIn = s.seqIn := rfl
@[simp] theorem State.issue_rssiIn (ins : List HostInput) : (s.issue ins).rssiIn = s.rssiIn := rfl
@[simp] theorem State.issue_bwIn (ins : List HostInput) : (s.issue ins).bwIn = s.bwIn := rfl
@[simp] theorem State.issue_sfIn (ins : List HostInput) : (s.issue ins).sfIn = s.sfIn := rfl
@[simp] theorem State.issue_crIn (ins : List HostInput) : (s.issue ins).crIn = s.crIn := rfl
@[simp] theorem State.issue_tlenIn (ins : List HostInput) : (s.issue ins).tlenIn = s.tlenIn := rfl
@[simp] theorem State.issue_freqIn (ins : List HostInput) : (s.issue ins).freqIn = s.freqIn := rfl
@[simp] theorem State.issue_textIn (ins : List HostInput) : (s.issue ins).textIn = s.textIn := rfl
@[simp] theorem State.issue_frame (ins : List HostInput) : (s.issue ins).frame = s.frame := rfl
@[simp] theorem State.issue_rssiUpOut (ins : List HostInput) : (s.issue ins).rssiUpOut = s.rssiUpOut := rfl
@[simp] theorem State.issue_rssiDnOut (ins : List HostInput) : (s.issue ins).rssiDnOut = s.rssiDnOut := rfl
@[simp] theorem State.issue_seqOut (ins : List HostInput) : (s.issue ins).seqOut = s.seqOut := rfl
@[simp] theorem State.issue_bwOut (ins : List HostInput) : (s.issue ins).bwOut = s.bwOut := rfl
@[simp] theorem State.issue_sfOut (ins : List HostInput) : (s.issue ins).sfOut = s.sfOut := rfl
@[simp] theorem State.issue_crOut (ins : List HostInput) : (s.issue ins).crOut = s.crOut := rfl
@[simp] theorem State.issue_tlenOut (ins : List HostInput) : (s.issue ins).tlenOut = s.tlenOut := rfl
@[simp] theorem State.issue_freqOut (ins : List HostInput) : (s.issue ins).freqOut = s.freqOut := rfl
@[simp] theorem State.issue_hwaddrOut (ins : List HostInput) : (s.issue ins).hwaddrOut = s.hwaddrOut := rfl
@[simp] theorem State.issue_textOut (ins : List HostInput) : (s.issue ins).textOut = s.textOut := rfl
@[simp] theorem State.issue_status (ins : List HostInput) : (s.issue ins).status = s.status := rfl
@[simp] theorem State.issue_inputs (ins : List HostInput) : (s.issue ins).inputs = ins ++ s.inputs := rfl
@[simp] theorem State.issue_response (ins : List HostInput) : (s.issue ins).response = s.response := rfl

/-! `State.decodeResults` -/

@[simp] theorem State.decodeResults_seqIn (p : Params) : (s.decodeResults p).seqIn = s.seqIn := rfl
@[simp] theorem State.decodeResults_rssiIn (p : Params) : (s.decodeResults p).rssiIn = s.rssiIn := rfl
@[simp] theorem State.decodeResults_bwIn (p : Params) : (s.decodeResults p).bwIn = s.bwIn := rfl
@[simp] theorem State.decodeResults_sfIn (p : Params) : (s.decodeResults p).sfIn = s.sfIn := rfl
@[simp] theorem State.decodeResults_crIn (p : Params) : (s.decodeResults p).crIn = s.crIn := rfl
@[simp] theorem State.decodeResults_tlenIn (p : Params) : (s.decodeResults p).tlenIn = s.tlenIn := rfl
@[simp] theorem State.decodeResults_freqIn (p : Params) : (s.decodeResults p).freqIn = s.freqIn := rfl
@[simp] theorem State.decodeResults_textIn (p : Params) : (s.decodeResults p).textIn = s.textIn := rfl
@[simp] theorem State.decodeResults_frame (p : Params) : (s.decodeResults p).frame = s.frame := rfl
@[simp] theorem State.decodeResults_rssiUpOut (p : Params) :
    (s.decodeResults p).rssiUpOut = memRead1 s.frame 0 := rfl
@[simp] theorem State.decodeResults_rssiDnOut (p : Params) :
    (s.decodeResults p).rssiDnOut = memRead1 s.frame 1 := rfl
@[simp] theorem State.decodeResults_seqOut (p : Params) :
    (s.decodeResults p).seqOut = memRead1 s.frame 12 := rfl
@[simp] theorem State.decodeResults_bwOut (p : Params) : (s.decodeResults p).bwOut = memRead1 s.frame 13 := rfl
@[simp] theorem State.decodeResults_sfOut (p : Params) : (s.decodeResults p).sfOut = memRead1 s.frame 14 := rfl
@[simp] theorem State.decodeResults_crOut (p : Params) : (s.decodeResults p).crOut = memRead1 s.frame 15 := rfl
@[simp] theorem State.decodeResults_tlenOut (p : Params) :
    (s.decodeResults p).tlenOut = BitVec.ofNat 8 (textLen (memReadRange 16 16 (by omega) s.frame)) := rfl
@[simp] theorem State.decodeResults_freqOut (p : Params) :
    (s.decodeResults p).freqOut = memRead4 p.byteOrder s.frame 8 := rfl
@[simp] theorem State.decodeResults_hwaddrOut (p : Params) :
    (s.decodeResults p).hwaddrOut = memReadRange 6 2 (by omega) s.frame := rfl
@[simp] theorem State.decodeResults_textOut (p : Params) :
    (s.decodeResults p).textOut = memReadRange 16 16 (by omega) s.frame := rfl
@[simp] theorem State.decodeResults_status (p : Params) : (s.decodeResults p).status = s.status := rfl
@[simp] theorem State.decodeResults_inputs (p : Params) : (s.decodeResults p).inputs = s.inputs := rfl
@[simp] theorem State.decodeResults_response (p : Params) : (s.decodeResults p).response = s.response := rfl

/-! `State.resetEvent` -/

@[simp] theorem State.resetEvent_seqIn : s.resetEvent.seqIn = State.reset.seqIn := rfl
@[simp] theorem State.resetEvent_rssiIn : s.resetEvent.rssiIn = State.reset.rssiIn := rfl
@[simp] theorem State.resetEvent_bwIn : s.resetEvent.bwIn = State.reset.bwIn := rfl
@[simp] theorem State.resetEvent_sfIn : s.resetEvent.sfIn = State.reset.sfIn := rfl
@[simp] theorem State.resetEvent_crIn : s.resetEvent.crIn = State.reset.crIn := rfl
@[simp] theorem State.resetEvent_tlenIn : s.resetEvent.tlenIn = State.reset.tlenIn := rfl
@[simp] theorem State.resetEvent_freqIn : s.resetEvent.freqIn = State.reset.freqIn := rfl
@[simp] theorem State.resetEvent_textIn : s.resetEvent.textIn = State.reset.textIn := rfl
@[simp] theorem State.resetEvent_frame : s.resetEvent.frame = State.reset.frame := rfl
@[simp] theorem State.resetEvent_rssiUpOut : s.resetEvent.rssiUpOut = State.reset.rssiUpOut := rfl
@[simp] theorem State.resetEvent_rssiDnOut : s.resetEvent.rssiDnOut = State.reset.rssiDnOut := rfl
@[simp] theorem State.resetEvent_seqOut : s.resetEvent.seqOut = State.reset.seqOut := rfl
@[simp] theorem State.resetEvent_bwOut : s.resetEvent.bwOut = State.reset.bwOut := rfl
@[simp] theorem State.resetEvent_sfOut : s.resetEvent.sfOut = State.reset.sfOut := rfl
@[simp] theorem State.resetEvent_crOut : s.resetEvent.crOut = State.reset.crOut := rfl
@[simp] theorem State.resetEvent_tlenOut : s.resetEvent.tlenOut = State.reset.tlenOut := rfl
@[simp] theorem State.resetEvent_freqOut : s.resetEvent.freqOut = State.reset.freqOut := rfl
@[simp] theorem State.resetEvent_hwaddrOut : s.resetEvent.hwaddrOut = State.reset.hwaddrOut := rfl
@[simp] theorem State.resetEvent_textOut : s.resetEvent.textOut = State.reset.textOut := rfl
@[simp] theorem State.resetEvent_status : s.resetEvent.status = State.reset.status := rfl
@[simp] theorem State.resetEvent_inputs : s.resetEvent.inputs = s.inputs := rfl
@[simp] theorem State.resetEvent_response : s.resetEvent.response = State.reset.response := rfl

end Sys2Proof.Machine
end

