-- ==== Sys2Proof/Laws/Ops.lean ====
section
/-! SUPPORT. One lemma per shared operation that says once everything it does, for proofs to cite instead of
unfolding it. -/

namespace Sys2Proof.Machine

open Sys2Proof

/-! ### Responses and error entry -/

/-- Error entry as one record update (60_exceptions.md R136). -/
theorem State.raise_eq (s : State) (e : CommandError) :
    s.raise e = { s with status := s.status ||| e.stickyBit, response := some ⟨e.code, 0#32⟩ } := rfl

/-- A successful answer as one record update. -/
theorem State.respondOk_eq (s : State) (d : Word32) :
    s.respondOk d = { s with response := some ⟨0x00#8, d⟩ } := rfl

/-! ### The host's moves -/

@[simp] theorem State.nextInput_nil (s : State) (h : s.inputs = []) : s.nextInput = none := by
  simp [State.nextInput, h]

@[simp] theorem State.nextInput_cons (s : State) (i : HostInput) (rest : List HostInput)
    (h : s.inputs = i :: rest) : s.nextInput = some (i, { s with inputs := rest }) := by
  simp [State.nextInput, h]

/-! ### The frame-buffer primitives -/

/-- A frame byte after a one-byte write. -/
theorem getElem_memWrite1 (f : Frame) (a : Fin 32) (v : Byte) (j : Nat) (hj : j < 32) :
    (memWrite1 f a v)[j] = if j = a.val then v else f[j] := by
  simp only [memWrite1, Vector.getElem_set]
  by_cases h : a.val = j
  · simp [h]
  · simp [h, Ne.symm h]

/-- A frame byte after a four-byte write: its byte of `bytes4` inside the four, unchanged outside. -/
theorem getElem_memWrite4 (o : ByteOrder) (f : Frame) (a : Fin 29) (v : Word32) (j : Nat) (hj : j < 32) :
    (memWrite4 o f a v)[j] =
      if h : a.val ≤ j ∧ j < a.val + 4 then (bytes4 o v)[j - a.val]'(by omega) else f[j] := by
  obtain ⟨a, ha⟩ := a
  by_cases h : a ≤ j ∧ j < a + 4
  · obtain ⟨k, rfl⟩ : ∃ k, j = a + k := ⟨j - a, by omega⟩
    have hk : k = 0 ∨ k = 1 ∨ k = 2 ∨ k = 3 := by omega
    rcases hk with rfl | rfl | rfl | rfl <;> cases o <;> simp [memWrite4, bytes4]
  · have h0 : ¬ a = j := by omega
    have h1 : ¬ a + 1 = j := by omega
    have h2 : ¬ a + 2 = j := by omega
    have h3 : ¬ a + 3 = j := by omega
    cases o <;> simp [memWrite4, h, h0, h1, h2, h3]

/-- `memRead4` is `word4` of the four bytes. -/
theorem memRead4_eq_word4 (o : ByteOrder) (f : Frame) (a : Fin 29) :
    memRead4 o f a = word4 o f[a.val] f[a.val + 1] f[a.val + 2] f[a.val + 3] := by
  cases o <;> rfl

/-- A frame byte after a range of one-byte writes: the value written inside the range, unchanged
outside. -/
theorem getElem_memWriteRange (n base : Nat) (h : base + n ≤ 32) (v : Fin n → Byte) (f : Frame) (j : Nat)
    (hj : j < 32) :
    (memWriteRange n base h v f)[j] =
      if hr : base ≤ j ∧ j < base + n then v ⟨j - base, by omega⟩ else f[j] := by
  induction n with
  | zero => simp [memWriteRange]
  | succ n ih =>
    have hstep : memWriteRange (n + 1) base h v f =
        memWrite1 (memWriteRange n base (by omega) (fun i => v i.castSucc) f) ⟨base + n, by omega⟩
          (v (Fin.last n)) := rfl
    rw [hstep, getElem_memWrite1, ih (by omega)]
    by_cases h1 : j = base + n
    · subst h1; simp; rfl
    · by_cases h2 : base ≤ j ∧ j < base + n
      · have h3 : base ≤ j ∧ j < base + (n + 1) := by omega
        simp [h1, h2, h3]
      · have h3 : ¬ (base ≤ j ∧ j < base + (n + 1)) := by omega
        simp only [h1, if_false]; rw [dif_neg h2, dif_neg h3]

/-- A byte of a range read is the frame byte at its place. -/
@[simp] theorem getElem_memReadRange (n base : Nat) (h : base + n ≤ 32) (f : Frame) (i : Nat) (hi : i < n) :
    (memReadRange n base h f)[i] = f[base + i] := by
  simp [memReadRange, memRead1]

/-! ### The register map -/

/-- Every index but the reserved ones names a register, and the register has that index (10_state.md R30,
R31). -/
theorem regOfIndex_cases (r : Byte) :
    (regOfIndex r = none ∧ (r ∈ [0x07#8, 0x0F#8, 0x4E#8, 0x4F#8] ∨ 0x60 ≤ r.toNat)) ∨
      ∃ reg, regOfIndex r = some reg ∧ regIndex reg = r := by
  revert r; decide

/-! ### Commands -/

/-- BUILD as one case split (40_build.md R91, R92). -/
theorem State.buildCommand_cases (p : Params) (s : State) :
    (s.tlenIn.toNat ≤ 15 ∧ s.buildCommand p = ({ s with frame := s.buildFrame p }).respondOk 0#32) ∨
      (15 < s.tlenIn.toNat ∧ s.buildCommand p = s.raise .payloadTooLong) := by
  unfold State.buildCommand State.textLength textMaxChars
  by_cases h : s.tlenIn.toNat ≤ 15
  · exact .inl ⟨h, if_neg (by omega)⟩
  · exact .inr ⟨by omega, if_pos (by omega)⟩

/-- RD as one case split (42_register_access.md R110). -/
theorem State.readCommand_cases (p : Params) (s : State) (r : Byte) :
    (regOfIndex r = none ∧ s.readCommand p r = s.raise .illegalRegister) ∨
      ∃ reg, regOfIndex r = some reg ∧ s.readCommand p r = s.respondOk (s.readReg p reg) := by
  unfold State.readCommand
  cases h : regOfIndex r with
  | none => exact .inl ⟨rfl, rfl⟩
  | some reg => exact .inr ⟨reg, rfl, rfl⟩

/-- WR as one case split (42_register_access.md R111). -/
theorem State.writeCommand_cases (s : State) (r : Byte) (v : Word32) :
    ((∀ reg, regOfIndex r = some reg → regAccess reg = .ro) ∧
        s.writeCommand r v = s.raise .illegalRegister) ∨
      ∃ reg, regOfIndex r = some reg ∧ regAccess reg = .rw ∧
        s.writeCommand r v = (s.writeReg v reg).respondOk 0#32 := by
  unfold State.writeCommand
  cases h : regOfIndex r with
  | none => exact .inl ⟨fun _ h' => by simp at h', rfl⟩
  | some reg =>
    cases ha : regAccess reg with
    | ro => exact .inl ⟨fun reg' h' => by simp at h'; rw [← h', ha], by simp [ha]⟩
    | rw => exact .inr ⟨reg, rfl, ha, by simp [ha]⟩

end Sys2Proof.Machine
end

