-- ==== Sys2Proof/Laws/PerInstr.lean ====
section
/-! SUPPORT. The families of statements that are made for every command: each has a `Statement` and one
lemma per constructor of `Instr`. -/

namespace Sys2Proof.Laws

open Sys2Proof

/-- The word of a command selects the row of the opcode map that has its mnemonic, and no other row
(30_encoding.md R72). -/
def WordSelectsItsRow.Statement (i : Instr) : Prop :=
  (opcodeTable.filter (·.selectedBy (encode i).cmd)).map (·.mnemonic) = [i.mnemonic]

/-- The mnemonics of the rows a word selects. -/
def rowsOf (w : Word16) : List String := (opcodeTable.filter (·.selectedBy w)).map (·.mnemonic)

/-- Every word with the opcode of RD selects the row of RD alone. -/
theorem rowsOf_rd (r : Byte) : rowsOf (0x10#8 ++ r) = ["RD"] := by revert r; decide

/-- Every word with the opcode of WR selects the row of WR alone. -/
theorem rowsOf_wr (r : Byte) : rowsOf (0x11#8 ++ r) = ["WR"] := by revert r; decide

theorem WordSelectsItsRow.nop : WordSelectsItsRow.Statement .nop := rfl

theorem WordSelectsItsRow.build : WordSelectsItsRow.Statement .build := rfl

theorem WordSelectsItsRow.decode : WordSelectsItsRow.Statement .decode := rfl

theorem WordSelectsItsRow.clrerr : WordSelectsItsRow.Statement .clrerr := rfl

theorem WordSelectsItsRow.rd (r : Byte) : WordSelectsItsRow.Statement (.rd r) := rowsOf_rd r

theorem WordSelectsItsRow.wr (r : Byte) (v : Word32) : WordSelectsItsRow.Statement (.wr r v) := rowsOf_wr r

end Sys2Proof.Laws
end

