-- ==== Sys2Proof/Laws/Step.lean ====
section
/-! SUPPORT. What one step and one run can do, said once. -/

namespace Sys2Proof.Machine

open Sys2Proof

/-- Every step: it waits, resets, executes a decoded command, or raises IllegalCommand. -/
theorem step_cases (s : State) :
    (s.inputs = [] ∧ step s = .next s) ∨
    (∃ rest, s.inputs = .reset :: rest ∧ step s = .next ({ s with inputs := rest } : State).resetEvent) ∨
    (∃ q rest i, s.inputs = .request q :: rest ∧ decode q = .ok i ∧
      step s = exec i { s with inputs := rest }) ∨
    (∃ q rest why, s.inputs = .request q :: rest ∧ decode q = .error why ∧
      step s = .next (({ s with inputs := rest } : State).raise .illegalCommand)) := by
  cases hi : s.inputs with
  | nil => exact .inl ⟨rfl, by simp [step, State.nextInput_nil s hi]⟩
  | cons i rest =>
    have hn := State.nextInput_cons s i rest hi
    cases i with
    | reset => exact .inr (.inl ⟨rest, rfl, by simp [step, hn]⟩)
    | request q =>
      cases hd : decode q with
      | ok c => exact .inr (.inr (.inl ⟨q, rest, c, rfl, hd, by simp [step, hn, hd]⟩))
      | error why => exact .inr (.inr (.inr ⟨q, rest, why, rfl, hd, by simp [step, hn, hd]⟩))

/-- The state each command leaves, without its outcome's wrapping. -/
def after (i : Instr) (s : State) : State :=
  match i with
  | .nop => s.respondOk 0#32
  | .build => s.buildCommand params
  | .decode => s.decodeCommand params
  | .clrerr => s.clearSticky.respondOk 0#32
  | .rd r => s.readCommand params r
  | .wr r v => s.writeCommand r v

/-- Every command answers a next state. -/
theorem exec_eq_next (i : Instr) (s : State) : exec i s = .next (after i s) := by
  cases i <;> rfl

/-- A run of `k + 1` steps is a step and a run of `k`. -/
theorem run_succ (k : Nat) (s t : State) (h : step s = .next t) :
    core.run (k + 1) s = core.run k t := by
  have h' : core.step s = .next t := h
  rw [Host.Core.run.eq_2 core s k, h']

/-- Every step answers a next state. -/
theorem step_answers (s : State) : ∃ t, step s = .next t := by
  rcases step_cases s with ⟨_, h⟩ | ⟨_, _, h⟩ | ⟨_, _, i, _, _, h⟩ | ⟨_, _, _, _, _, h⟩
  · exact ⟨_, h⟩
  · exact ⟨_, h⟩
  · exact ⟨_, h.trans (exec_eq_next i _)⟩
  · exact ⟨_, h⟩

/-- A run of `j + k` steps is a run of `j` and then one of `k`. -/
theorem run_add (j k : Nat) (s t : State) (h : core.run j s = .next t) :
    core.run (j + k) s = core.run k t := by
  induction j generalizing s with
  | zero =>
    rw [Host.Core.run.eq_1 core s] at h
    injection h with h
    rw [Nat.zero_add, h]
  | succ j ih =>
    obtain ⟨u, hu⟩ := step_answers s
    rw [run_succ j s u hu] at h
    rw [Nat.succ_add, run_succ (j + k) s u hu, ih u h]

end Sys2Proof.Machine
end

