-- ==== Sys2Proof/Tests/Slice0.lean ====
section
/-! SUPPORT. Tests. Expected values are written out from spec/95_test_vectors.md (V, BX, RW, CW, ST, P) and
from the encodings of 30_encoding.md R72, never from the model's own answers. -/

namespace Sys2Proof.Tests

open Sys2Proof Sys2Proof.Machine

/-! ### Helpers -/

/-- The address of the test vectors, with `BYTE_ORDER` = `LE`. -/
def le : Params := { hwAddr := #v[0xA1, 0xA2, 0xA3, 0xA4, 0xA5, 0xA6], byteOrder := .le }

/-- The same block with `BYTE_ORDER` = `BE`. -/
def be : Params := { le with byteOrder := .be }

/-- The operands of vector V2. -/
def v2 : State :=
  { State.reset with
    seqIn := 7, rssiIn := 0xD6, freqIn := 0x4464C000, bwIn := 7, sfIn := 9, crIn := 1, tlenIn := 5,
    textIn := #v[0x68, 0x65, 0x6C, 0x6C, 0x6F, 0x55, 0, 0, 0, 0, 0, 0, 0, 0, 0, 0x55] }

/-- The operands of vector V3: the longest text. -/
def v3 : State :=
  { State.reset with
    seqIn := 255, rssiIn := 0x80, freqIn := 0x7FC00001, bwIn := 255, sfIn := 12, crIn := 4, tlenIn := 15,
    textIn := #v[0x41, 0x42, 0x43, 0x44, 0x45, 0x46, 0x47, 0x48, 0x49, 0x4A, 0x4B, 0x4C, 0x4D, 0x4E, 0x4F, 0] }

/-- The frame of vector V7, which this endpoint could not have built. -/
def v7 : Frame :=
  #v[0xFF, 0x80, 0x01, 0x02, 0x03, 0x04, 0x05, 0x06, 0xDB, 0x0F, 0x49, 0x40, 0x2A, 0x00, 0x06, 0x05,
    0x30, 0x31, 0x32, 0x33, 0x34, 0x35, 0x36, 0x37, 0x38, 0x39, 0x41, 0x42, 0x43, 0x44, 0x45, 0x46]

/-- A block about to serve one request. -/
def facing (s : State) (cmd : Word16) (wdata : Word32) : State :=
  { s with inputs := [.request ⟨cmd, wdata⟩] }

/-! ### Well-formedness: each check refuses an ill-formed term -/

theorem test_refuses_index_256 : (AsmLine.rd (.index 256)).wellFormed = false := by decide
theorem test_refuses_33_bit_value : (AsmLine.wr (.named .freqIn) (.num (2 ^ 32))).wellFormed = false := by decide
theorem test_refuses_value_below_range : (AsmLine.beacon (.neg (2 ^ 31 + 1))).wellFormed = false := by decide
theorem test_refuses_non_ascii_char : (AsmLine.beacon (.char 'é')).wellFormed = false := by decide
theorem test_refuses_text_of_256 : (AsmLine.ldtext (List.replicate 256 0)).wellFormed = false := by
  rw [AsmLine.wellFormed, List.length_replicate]; decide
theorem test_refuses_frame_of_31 : (AsmLine.ldframe (List.replicate 31 0)).wellFormed = false := by decide
theorem test_refuses_frame_byte_256 : (AsmLine.ldframe (List.replicate 32 256)).wellFormed = false := by decide
theorem test_refuses_bad_radio_operand :
    (AsmLine.ldradio (.num 0) (.num 0) (.num 0) (.num 0) (.num (2 ^ 32))).wellFormed = false := by decide
theorem test_accepts_every_command : (Instr.wr 0xFF#8 0xFFFFFFFF#32).wellFormed = true := by decide

/-! ### Decoding: words written out from 30_encoding.md R72 (CW1 to CW14) -/

theorem test_decode_nop : decode ⟨0b0000000000000000#16, 5#32⟩ = .ok .nop := by decide
theorem test_decode_build : decode ⟨0b0000000100000000#16, 5#32⟩ = .ok .build := by decide
theorem test_decode_decode : decode ⟨0b0000001000000000#16, 5#32⟩ = .ok .decode := by decide
theorem test_decode_clrerr : decode ⟨0b0000001100000000#16, 5#32⟩ = .ok .clrerr := by decide
theorem test_decode_rd : decode ⟨0b0001000001000111#16, 5#32⟩ = .ok (.rd 0x47#8) := by decide
theorem test_decode_wr : decode ⟨0b0001000100101100#16, 5#32⟩ = .ok (.wr 0x2C#8 5#32) := by decide
theorem test_decode_reserved_register : decode ⟨0x03FF#16, 0#32⟩ = .error (.registerNotZero 0x03#8 0xFF#8) := by
  decide
theorem test_decode_reserved_opcode : decode ⟨0x1200#16, 0#32⟩ = .error (.opcode 0x12#8) := by decide
theorem test_table_word_of_48_bits : decodeTableWord 48 0x4464C0001106 = some (.wr 0x06#8 0x4464C000#32) := by
  decide
theorem test_table_word_reserved : decodeTableWord 16 0x0101 = none := by decide

/-! ### Commands -/

theorem test_build_v2 : (v2.buildCommand le).frame =
    #v[0x00, 0xD6, 0xA1, 0xA2, 0xA3, 0xA4, 0xA5, 0xA6, 0x00, 0xC0, 0x64, 0x44, 0x07, 0x07, 0x09, 0x01,
      0x68, 0x65, 0x6C, 0x6C, 0x6F, 0, 0, 0, 0, 0, 0, 0, 0, 0, 0, 0] := by decide
theorem test_build_v2b_big_endian : memReadRange 4 8 (by omega) (v2.buildCommand be).frame =
    #v[0x44, 0x64, 0xC0, 0x00] := by decide
theorem test_decode_v7 :
    let t := ({ State.reset with frame := v7 } : State).decodeCommand le
    (t.rssiUpOut, t.rssiDnOut, t.freqOut, t.seqOut, t.sfOut, t.crOut, t.tlenOut) =
      (0xFF#8, 0x80#8, 0x40490FDB#32, 0x2A#8, 6#8, 5#8, 16#8) := by decide
theorem test_decode_v8_text :
    textLen #v[0x68, 0x69, 0x00, 0x6A, 0x75, 0x6E, 0x6B, 0, 0x55, 0x55, 0x55, 0x55, 0x55, 0x55, 0x55, 0x55] =
      2 := by decide
theorem test_build_bx2_unsigned : ({ v2 with tlenIn := 255 } : State).buildCommand le =
    { v2 with tlenIn := 255, status := 0x01, response := some ⟨0x01, 0⟩ } := by decide
theorem test_rd_rw3_zero_extends :
    exec (.rd 0x01#8) v2 = .next { v2 with response := some ⟨0x00, 0x000000D6⟩ } := rfl
theorem test_rd_rw8_address : (v2.readCommand le 0x08#8).response = some ⟨0x00, 0x000000A1⟩ := by decide
theorem test_wr_rw5_truncates : (v2.writeCommand 0x00#8 0x1FF#32).seqIn = 0xFF#8 := by decide
theorem test_wr_rw13_status_is_read_only :
    exec (.wr 0x0E#8 0#32) v2 = .next { v2 with status := 0x04, response := some ⟨0x03, 0⟩ } := rfl
theorem test_nop_keeps_sticky_bits :
    exec .nop { v2 with status := 0x07 } = .next { v2 with status := 0x07, response := some ⟨0x00, 0⟩ } := rfl
theorem test_clrerr_st1 :
    exec .clrerr { v2 with status := 0x07 } = .next { v2 with status := 0x00, response := some ⟨0x00, 0⟩ } := rfl
theorem test_step_reserved_word : step (facing v2 0x0101 0) =
    .next { v2 with status := 0x02, response := some ⟨0x02, 0⟩ } := rfl
theorem test_first_instruction_after_reset : step (State.reset.withFetchWord 16 0x1007) =
    .next { State.reset with status := 0x04, response := some ⟨0x03, 0⟩ } := rfl
theorem test_f32_rounds_to_even : binary32OfDecimal false 8681 1 = 0x44590666#32 := by decide
theorem test_listing_p1_line_8 :
    assemble (.wr (.named (.textIn 0)) (.char 'h')) = some [⟨0x1110, 0x00000068⟩] := by decide

/-! ### Witnesses: for each statement with hypotheses, values that meet them together -/

theorem witness_DecodeInvertsEncode : (Instr.rd 0x07#8).wellFormed = true := by decide

theorem witness_ReservedWordIsIllegalCommand :
    (∀ op ∈ [0x04#8, 0x0F#8], 0x04 ≤ op.toNat ∧ op.toNat ≤ 0x0F) ∧
    (∀ op ∈ [0x12#8, 0xFF#8], 0x12 ≤ op.toNat) ∧
    ((0x03#8).toNat ≤ 0x03 ∧ 0x01#8 ≠ 0x00#8) ∧
    (facing v2 (0x03#8 ++ 0x01#8) 9).inputs = [.request ⟨0x03#8 ++ 0x01#8, 9⟩] := by decide

theorem witness_StepRunsDecodedCommand :
    (facing v2 0x0100 0).inputs = .request ⟨0x0100, 0⟩ :: [] ∧ decode ⟨0x0100, 0⟩ = .ok .build := by decide

theorem witness_IdleBlockWaits : v2.inputs = [] := by decide

theorem witness_ResetEventClearsTheBlock :
    ({ v2 with inputs := [.reset, .reset] } : State).inputs = .reset :: [.reset] := by decide

theorem witness_BlockNeverStops : (facing v2 0x0400 0).inputs = .request ⟨0x0400, 0⟩ :: [] := by decide

theorem witness_EveryStepKeepsTheInvariant :
    (facing v2 0x1007 0).Inv ∧ step (facing v2 0x1007 0) = .next (v2.raise .illegalRegister) :=
  ⟨by decide, rfl⟩

theorem witness_BuildRefinesBuildBeacon :
    v3.tlenIn.toNat ≤ 15 ∧ State.reset.tlenIn.toNat ≤ 15 ∧
    15 < ({ v2 with tlenIn := 16 } : State).tlenIn.toNat := by decide

theorem witness_BuiltFrameByteByByte :
    v3.tlenIn.toNat ≤ 15 ∧ le.byteOrder = .le ∧ be.byteOrder = .be := by decide

theorem witness_BuildRejectsALongText :
    16 ≤ ({ v2 with tlenIn := 16 } : State).tlenIn.toNat ∧ v3.tlenIn.toNat ≤ 15 ∧ v3.tlenIn = 15#8 ∧
    State.reset.tlenIn = 0#8 := by decide

theorem witness_BuildDependsOnOperandsOnly :
    SameOperands v2 { v2 with frame := v7, status := 0x07 } ∧
    (v2.buildCommand le).response = some ⟨0x00, 0⟩ := by
  unfold SameOperands; decide

theorem witness_DecodedRegistersByteByByte : le.byteOrder = .le ∧ be.byteOrder = .be := by decide

theorem witness_TextLengthIsTheFirstZero :
    (∀ j : Fin 16, j < 15 → v3.textIn[j] ≠ 0x00#8) ∧ v3.textIn[(15 : Fin 16)] = 0x00#8 ∧
    (∀ j : Fin 16, (memReadRange 16 16 (by omega) v7)[j] ≠ 0x00#8) := by decide

theorem witness_ReadAnswersEveryRegister :
    ((0x07#8) ∈ [0x07#8, 0x0F#8, 0x4E#8, 0x4F#8] ∨ 0x60 ≤ (0x07#8).toNat) ∧ 0x60 ≤ (0x60#8).toNat ∧
    0x60 ≤ (0xFF#8).toNat := by decide

theorem witness_WriteStoresTheNamedRegister :
    ∀ r ∈ [0x07#8, 0x0F#8, 0x40#8, 0xFF#8], ¬ (r.toNat ≤ 0x06 ∨ (0x10 ≤ r.toNat ∧ r.toNat ≤ 0x3F)) := by
  decide

theorem witness_IllegalRegisterCases :
    0x07#8 ∈ [0x07#8, 0x0F#8, 0x4E#8, 0x4F#8] ∧ 0x08 ≤ (0x08#8).toNat ∧
    (0x60 ≤ (0x60#8).toNat ∧ (0x60#8).toNat ≤ 0xFF) ∧ (0x08 ≤ (0x0D#8).toNat ∧ (0x0D#8).toNat ≤ 0x0D) ∧
    (0x40 ≤ (0x4D#8).toNat ∧ (0x4D#8).toNat ≤ 0x4D) ∧ (0x50 ≤ (0x5F#8).toNat ∧ (0x5F#8).toNat ≤ 0x5F) := by
  decide

theorem witness_WriteThenReadEachIndex :
    (∀ r ∈ [0x06#8, 0x10#8, 0x3F#8], r.toNat ≤ 0x06 ∨ (0x10 ≤ r.toNat ∧ r.toNat ≤ 0x3F)) ∧
    0x0E#8 ≠ 0x06#8 := by decide

theorem witness_RegisterMapIsABijection : regOfIndex 0x3F#8 = some (.frame 31) := by decide

theorem witness_FrameWritesReadBack :
    (31 : Fin 32) ≠ 28 ∧ ((27 : Fin 32).val < (28 : Fin 29).val) ∧ (0 : Fin 29).val + 4 ≤ (4 : Fin 32).val ∧
    le.byteOrder = .le ∧ be.byteOrder = .be := by decide

theorem witness_SignedBytesAreTwosComplement :
    (-128 : Int) ≤ -128 ∧ (-128 : Int) ≤ 127 ∧ (-128 : Int) ≤ 127 ∧ (127 : Int) ≤ 127 := by decide

/-- BUILD, then a WR to an operand and a CLRERR, leaves FRAME as BUILD left it. -/
theorem witness_BuildThenDecodeRecoversTheFields :
    v3.tlenIn.toNat ≤ 15 ∧
    ∃ u, serve (requestsOf [.build] ++ requestsOf [.wr 0x00#8 9, .clrerr]) v3 = .next u ∧
      u.frame = (v3.buildCommand params).frame :=
  ⟨by decide, _, rfl, rfl⟩

/-- A text without 0x00, and one with its first 0x00 at index 1 (V5c). -/
theorem witness_BuildThenDecodeRecoversTheFields_text :
    nulFreeText v3 = true ∧
    (let s : State := { v3 with textIn := v3.textIn.set 1 0 }
     (1 : Fin 16).val < s.tlenIn.toNat ∧ s.textIn[(1 : Fin 16)] = 0x00#8 ∧
       ∀ j : Fin 16, j < 1 → s.textIn[j] ≠ 0x00#8) ∧
    [0x41#8].length ≤ 15 ∧ 0x00#8 ∉ [0x41#8] := by decide

/-- Both sides of the equivalence are met by a built frame, and a frame without terminator exists. -/
theorem witness_DecodeThenBuildReproducesOwnFrames :
    textLen (({ State.reset with frame := v7 } : State).decodeCommand le).textOut = 16 ∧
    (v2.buildCommand le).frame[0] = 0x00#8 ∧
    textLen (memReadRange 16 16 (by omega) (v2.buildCommand le).frame) = 5 := by decide

theorem witness_BeaconAttemptRefinesBuildBeacon :
    (List.replicate 255 (0x41#8)).length ≤ 255 ∧ ([] : List Byte).length ≤ 255 := by
  rw [List.length_replicate]; decide

/-- The text lengths 15 and 16, where the two cases of `build_beacon` meet (BX3). -/
theorem witness_BeaconAttemptRefinesBuildBeacon_boundary :
    let text (n : Nat) : List Byte := List.replicate n 0x41
    (text 15).length ≤ 255 ∧ (buildBeacon le 7 (text 15) ⟨0, 0, 0, 0, 0⟩).isSome = true ∧
    (text 16).length ≤ 255 ∧ buildBeacon le 7 (text 16) ⟨0, 0, 0, 0, 0⟩ = none := by decide

theorem witness_CleanFetchReadsOneFrame : cleanFetch (requestsOf [.rd 0x20#8, .decode]) = true := by decide

theorem witness_OtherMovesKeepResultsAndOperands :
    keepsResults (requestsOf [.build, .wr 0x05#8 3]) = true ∧
    keepsOperands (requestsOf [.decode, .wr 0x3F#8 3]) = true := by decide

theorem witness_SequenceNumbersAdvanceModulo256 : (List.replicate 15 (0x41#8)).length ≤ 15 := by decide

theorem witness_EachGroupHasItsWriters :
    writesOperands (.wr 0x20#8 1) = false ∧ writesFrame (.wr 0x00#8 1) = false ∧
    writesResults .build = false ∧ (v2.writeCommand 0x00#8 1).response = some ⟨0x00, 0⟩ ∧
    Instr.wr 0x00#8 1 ≠ .clrerr := by decide

theorem witness_FailingRequestChangesOnlyItsBit :
    let s := facing { v2 with tlenIn := 16 } 0x0100 0
    s.inputs = .request ⟨0x0100, 0⟩ :: [] ∧
    step s = .next (failedWith { s with inputs := [] } 0x01 0x01) ∧
    (failedWith { s with inputs := [] } 0x01 0x01).response = some ⟨0x01, 0⟩ ∧ (0x01#8) ≠ 0x00#8 :=
  ⟨rfl, rfl, rfl, by decide⟩

theorem witness_StickyBitsAccumulateUntilClrerr :
    (facing v2 0x0300 0).inputs = .request ⟨0x0300, 0⟩ :: [] ∧ decode ⟨0x0300, 0⟩ = .ok .clrerr ∧
    decode ⟨0x0101, 0⟩ ≠ .ok .clrerr := by decide

theorem witness_CommandsAreIdempotent :
    exec (.wr 0x00#8 9) v2 = .next (v2.writeCommand 0x00#8 9) ∧ regOfIndex 0x0E#8 ≠ none :=
  ⟨rfl, by decide⟩

theorem witness_NoHiddenStateIsRead : exec .decode v2 = .next (v2.decodeCommand params) := rfl

end Sys2Proof.Tests
end

/-! The family 10_state.md: what the block reads besides its registers (R28), and the state after reset
(R32). -/

namespace Sys2Proof.Machine

open Sys2Proof

section HostInterface
/-! ### The host's side of the interface

Every operation of the block commutes with a change of the two components that are not the block's, so
none of them reads either. -/

variable (s : State) (ins : List HostInput) (r : Option Response)

/-- The same block, between other moves to come and another latest response (log 1, log 2). -/
def State.withInterface : State := { s with inputs := ins, response := r }

/-- A response replaces the latest one and leaves the moves to come. -/
@[simp] theorem State.withInterface_respond (c : Byte) (d : Word32) :
    (s.withInterface ins r).respond c d = (s.respond c d).withInterface ins (some ⟨c, d⟩) := rfl

@[simp] theorem State.withInterface_respondOk (d : Word32) :
    (s.withInterface ins r).respondOk d = (s.respondOk d).withInterface ins (some ⟨okCode, d⟩) := rfl

@[simp] theorem State.withInterface_raise (e : CommandError) :
    (s.withInterface ins r).raise e = (s.raise e).withInterface ins (some ⟨e.code, 0#32⟩) := rfl

@[simp] theorem State.withInterface_clearSticky :
    (s.withInterface ins r).clearSticky = s.clearSticky.withInterface ins r := rfl

@[simp] theorem State.withInterface_decodeResults (p : Params) :
    (s.withInterface ins r).decodeResults p = (s.decodeResults p).withInterface ins r := rfl

/-- Reading a register reads nothing of the interface. -/
@[simp] theorem State.withInterface_readReg (p : Params) (reg : Reg) :
    (s.withInterface ins r).readReg p reg = s.readReg p reg := by
  cases reg <;> rfl

/-- Writing a register neither reads nor changes the interface. -/
@[simp] theorem State.withInterface_writeReg (v : Word32) (reg : Reg) :
    (s.withInterface ins r).writeReg v reg = (s.writeReg v reg).withInterface ins r := by
  cases reg <;> rfl

/-- BUILD takes its branch from `TLEN_IN` alone, and neither branch reads the interface. -/
theorem State.withInterface_buildCommand (p : Params) :
    (s.withInterface ins r).buildCommand p =
      (s.buildCommand p).withInterface ins (s.buildCommand p).response := by
  have htlen : (s.withInterface ins r).textLength = s.textLength := rfl
  unfold State.buildCommand
  rw [htlen]
  split
  · rfl
  · rfl

/-- RD takes its branch from the index alone. -/
theorem State.withInterface_readCommand (p : Params) (i : Byte) :
    (s.withInterface ins r).readCommand p i =
      (s.readCommand p i).withInterface ins (s.readCommand p i).response := by
  cases h : regOfIndex i with
  | none => simp [State.readCommand, h]
  | some reg => simp [State.readCommand, h]

/-- WR takes its branch from the index and the access right of its register. -/
theorem State.withInterface_writeCommand (i : Byte) (v : Word32) :
    (s.withInterface ins r).writeCommand i v =
      (s.writeCommand i v).withInterface ins (s.writeCommand i v).response := by
  cases h : regOfIndex i with
  | none => simp [State.writeCommand, h]
  | some reg =>
    cases ha : regAccess reg with
    | ro => simp [State.writeCommand, h, ha]
    | rw => simp [State.writeCommand, h, ha]

/-- The state a command leaves, its response with it, does not depend on the interface (10_state.md R28). -/
theorem after_withInterface (i : Instr) :
    after i (s.withInterface ins r) = (after i s).withInterface ins (after i s).response := by
  cases i with
  | nop => rfl
  | build => exact s.withInterface_buildCommand ins r params
  | decode => rfl
  | clrerr => rfl
  | rd i => exact s.withInterface_readCommand ins r params i
  | wr i v => exact s.withInterface_writeCommand ins r i v

end HostInterface

/-- Settles O43: a command that answers `t` leaves `after i s`, and `after` commutes with a change of the
interface. -/
theorem noHiddenStateIsRead : Obligations.NoHiddenStateIsRead := by
  intro i s t ins r h
  obtain rfl : after i s = t := by simpa [exec_eq_next] using h
  exact (exec_eq_next i _).trans (congrArg _ (after_withInterface s ins r i))

section AfterReset
/-! ### The state after reset -/

/-- The index of every register names that register (10_state.md R30). -/
@[simp] theorem regOfIndex_regIndex (reg : Reg) : regOfIndex (regIndex reg) = some reg := by
  cases reg with
  | hwaddrCfg i => revert i; decide
  | textIn i => revert i; decide
  | frame i => revert i; decide
  | hwaddrOut i => revert i; decide
  | textOut i => revert i; decide
  | _ => rfl

/-- RD of the index of a register answers what the register reads as (42_register_access.md R110). -/
theorem exec_rd_regIndex (s : State) (reg : Reg) :
    exec (.rd (regIndex reg)) s = .next (answered s (s.readReg params reg)) := by
  rw [exec_eq_next, after, State.readCommand, regOfIndex_regIndex]
  rfl

/-- A range of a frame that holds one byte everywhere. -/
theorem memReadRange_replicate (n base : Nat) (h : base + n ≤ 32) (b : Byte) :
    memReadRange n base h (Vector.replicate 32 b) = Vector.replicate n b := by
  ext i hi
  simp

/-- The 32-bit pattern of four zero bytes is 0 under both byte orders. -/
theorem memRead4_replicate_zero (o : ByteOrder) (a : Fin 29) :
    memRead4 o (Vector.replicate 32 0x00#8) a = 0#32 := by
  simp only [memRead4_eq_word4, Vector.getElem_replicate]
  cases o with
  | le => rfl
  | be => rfl

/-- Decoding the frame of zeros gives the results that reset has already given (10_state.md R32). -/
theorem State.reset_decodeResults (p : Params) : State.reset.decodeResults p = State.reset := by
  have hlen : textLen (Vector.replicate 16 0x00#8) = 0 := rfl
  simp [State.decodeResults, State.reset, memRead1, memReadRange_replicate, memRead4_replicate_zero, hlen]

/-- DECODE directly after reset changes no register. -/
theorem exec_decode_reset : exec .decode State.reset = .next (answered State.reset 0#32) := by
  rw [exec_eq_next, after, State.decodeCommand, State.reset_decodeResults]
  rfl

end AfterReset

/-- Settles O8: the registers by their reset values, HWADDR_CFG by what RD of its index answers, and DECODE
by what it makes of a frame of zeros. -/
theorem resetStateIsAllZero : Obligations.ResetStateIsAllZero := by
  have hzero {n : Nat} (i : Fin n) : (Vector.replicate n 0x00#8)[i] = 0 := Vector.getElem_replicate i.isLt
  exact ⟨⟨rfl, rfl, rfl, rfl, rfl, rfl⟩, rfl, hzero, hzero, ⟨rfl, rfl, rfl, rfl, rfl, rfl, rfl⟩,
    rfl, hzero, hzero, rfl, fun i => exec_rd_regIndex State.reset (.hwaddrCfg i), exec_decode_reset⟩

end Sys2Proof.Machine

/-! The family 20_memory.md: the frame-buffer primitives give back what they wrote (R42), and a command
executed twice in a row leaves what it leaves once (R47). -/

namespace Sys2Proof.Machine

open Sys2Proof

section FramePrimitives
/-! ### Four-byte values in the frame (20_memory.md R41, R42) -/

/-- `word4` puts the four bytes of a 32-bit pattern together again (30_encoding.md R69). -/
theorem word4_bytes4 (o : ByteOrder) (v : Word32) :
    word4 o (bytes4 o v)[0] (bytes4 o v)[1] (bytes4 o v)[2] (bytes4 o v)[3] = v := by
  have hjoin : v.extractLsb' 24 8 ++ v.extractLsb' 16 8 ++ v.extractLsb' 8 8 ++ v.extractLsb' 0 8 = v := by
    rw [BitVec.extractLsb'_append_extractLsb'_eq_extractLsb' (show 24 = 16 + 8 from rfl),
      BitVec.extractLsb'_append_extractLsb'_eq_extractLsb' (show 16 = 8 + 8 from rfl),
      BitVec.extractLsb'_append_extractLsb'_eq_extractLsb' (show 8 = 0 + 8 from rfl)]
    exact BitVec.extractLsb'_eq_self
  cases o with
  | le => exact hjoin
  | be => exact hjoin

variable (o : ByteOrder) (f : Frame) (a : Fin 29) (v : Word32)

/-- Inside the four bytes, byte `k` of a four-byte write is byte `k` of the value in frame order. -/
theorem getElem_memWrite4_offset (k : Nat) (hk : k < 4) :
    (memWrite4 o f a v)[a.val + k] = (bytes4 o v)[k] := by
  rw [getElem_memWrite4, dif_pos (by omega)]
  simp only [Nat.add_sub_cancel_left]

/-- Outside the four bytes, a four-byte write leaves the frame as it was. -/
theorem getElem_memWrite4_outside (j : Nat) (hj : j < 32) (hout : j < a.val ∨ a.val + 4 ≤ j) :
    (memWrite4 o f a v)[j] = f[j] := by
  rw [getElem_memWrite4, dif_neg (by omega)]

/-- A four-byte read gives back the four-byte write just before it. -/
theorem memRead4_memWrite4 : memRead4 o (memWrite4 o f a v) a = v := by
  have hbyte := getElem_memWrite4_offset o f a v
  calc memRead4 o (memWrite4 o f a v) a
      = word4 o (bytes4 o v)[0] (bytes4 o v)[1] (bytes4 o v)[2] (bytes4 o v)[3] := by
        rw [memRead4_eq_word4, ← hbyte 0, ← hbyte 1, ← hbyte 2, ← hbyte 3]
        rfl
    _ = v := word4_bytes4 o v

end FramePrimitives

/-- Settles O28: a frame byte after a write is the byte written there, and the frame's own elsewhere. -/
theorem frameWritesReadBack : Obligations.FrameWritesReadBack := by
  refine ⟨fun f a v => ⟨?same, fun j hj => ?other⟩,
    fun o f a v => ⟨memRead4_memWrite4 o f a v, ?le, ?be, fun j => getElem_memWrite4_outside o f a v j j.isLt⟩⟩
  case same => exact (getElem_memWrite1 f a v a a.isLt).trans (if_pos rfl)
  case other => exact (getElem_memWrite1 f a v j j.isLt).trans (if_neg (Fin.val_ne_of_ne hj))
  case le =>
    rintro rfl
    have hbyte := getElem_memWrite4_offset .le f a v
    exact ⟨hbyte 0 (by omega), hbyte 1 (by omega), hbyte 2 (by omega), hbyte 3 (by omega)⟩
  case be =>
    rintro rfl
    have hbyte := getElem_memWrite4_offset .be f a v
    exact ⟨hbyte 0 (by omega), hbyte 1 (by omega), hbyte 2 (by omega), hbyte 3 (by omega)⟩

section Idempotence
/-! ### A command executed twice (20_memory.md R47) -/

/-- A one-byte write repeated changes nothing more. -/
@[simp] theorem memWrite1_memWrite1 (f : Frame) (a : Fin 32) (v : Byte) :
    memWrite1 (memWrite1 f a v) a v = memWrite1 f a v :=
  Vector.set_set ..

variable (p : Params) (s : State)

/-- The later of two answers stands. -/
@[simp] theorem State.respondOk_respondOk (c d : Word32) : (s.respondOk c).respondOk d = s.respondOk d := rfl

/-- What a register reads as does not depend on the latest answer. -/
@[simp] theorem State.respondOk_readReg (d : Word32) (reg : Reg) :
    (s.respondOk d).readReg p reg = s.readReg p reg :=
  s.withInterface_readReg s.inputs _ p reg

/-- Writing a register does not depend on the latest answer and leaves it. -/
@[simp] theorem State.respondOk_writeReg (d v : Word32) (reg : Reg) :
    (s.respondOk d).writeReg v reg = (s.writeReg v reg).respondOk d := by
  cases reg <;> rfl

/-- Error entry repeated finds its sticky bit set (60_exceptions.md R136). -/
@[simp] theorem State.raise_raise (e : CommandError) : (s.raise e).raise e = s.raise e := by
  simp only [State.raise_eq, BitVec.or_assoc, BitVec.or_self]

/-- Writing the same value to the same register again changes nothing more. -/
@[simp] theorem State.writeReg_writeReg (v : Word32) (reg : Reg) :
    (s.writeReg v reg).writeReg v reg = s.writeReg v reg := by
  cases reg with
  | textIn i => simp [State.writeReg]
  | frame i => simp [State.writeReg]
  | _ => rfl

/-- The byte of a packed frame at an offset, by the field it lies in (30_encoding.md R61). -/
theorem getElem_pack (o : ByteOrder) (r : FieldRecord) (j : Nat) (hj : j < 32) :
    (pack o r)[j] =
      if h16 : j < 16 then
        if h12 : j < 12 then
          if h8 : j < 8 then
            if h2 : j < 2 then #v[r.rssiUp, r.rssiDown][j] else r.hw[j - 2]
          else (bytes4 o r.freq)[j - 8]
        else #v[r.seq, r.bw, r.sf, r.cr][j - 12]
      else r.tx[j - 16] := by
  refine (Vector.getElem_append (n := 2 + 6 + 4 + 4) hj).trans ?_
  simp only [Vector.getElem_append]

/-- The fields of the frame that BUILD makes of the operands (40_build.md R91). -/
def State.buildRecord : FieldRecord where
  rssiUp := 0x00#8
  rssiDown := s.rssiIn
  hw := p.hwAddr
  freq := s.freqIn
  seq := s.seqIn
  bw := s.bwIn
  sf := s.sfIn
  cr := s.crIn
  tx := Vector.ofFn fun i => if i.val < s.textLength then s.textIn[i] else 0x00#8

/-- The writes of BUILD reach every byte, so the frame is the packed operands whatever it was before: at each
offset the last write that reaches it is the byte of the field that lies there. -/
theorem State.buildFrame_eq_pack : s.buildFrame p = pack p.byteOrder (s.buildRecord p) := by
  ext j hj : 1
  simp only [State.buildFrame, getElem_memWriteRange, getElem_memWrite1, getElem_memWrite4, getElem_pack]
  interval_cases j <;> simp [State.buildRecord]

theorem State.buildCommand_of_le (h : s.tlenIn.toNat ≤ 15) :
    s.buildCommand p = ({ s with frame := pack p.byteOrder (s.buildRecord p) }).respondOk 0#32 := by
  obtain ⟨_, heq⟩ | ⟨hlong, _⟩ := s.buildCommand_cases p
  · rw [heq, s.buildFrame_eq_pack]
  · omega

theorem State.buildCommand_of_gt (h : 15 < s.tlenIn.toNat) :
    s.buildCommand p = s.raise .payloadTooLong := by
  obtain ⟨hshort, _⟩ | ⟨_, heq⟩ := s.buildCommand_cases p
  · omega
  · exact heq

/-- BUILD writes no operand, so it leaves the length that its branch is taken from. -/
@[simp] theorem State.buildCommand_tlenIn : (s.buildCommand p).tlenIn = s.tlenIn := by
  obtain ⟨_, heq⟩ | ⟨_, heq⟩ := s.buildCommand_cases p
  · rw [heq, State.respondOk_tlenIn]
  · rw [heq, State.raise_tlenIn]

/-- BUILD reads the operands alone: neither FRAME nor the latest answer. -/
@[simp] theorem State.buildRecord_of_frame_answer (f : Frame) (d : Word32) :
    ({ s with frame := f }.respondOk d).buildRecord p = s.buildRecord p := rfl

/-- The second BUILD takes the branch of the first, and packs the same fields. -/
theorem State.buildCommand_buildCommand : (s.buildCommand p).buildCommand p = s.buildCommand p := by
  have htlen := State.buildCommand_tlenIn p s
  by_cases h : s.tlenIn.toNat ≤ 15
  · rw [State.buildCommand_of_le p (s.buildCommand p) (by rwa [htlen]), State.buildCommand_of_le p s h,
      State.buildRecord_of_frame_answer]
    generalize pack p.byteOrder (s.buildRecord p) = f
    rfl
  · have hlong : 15 < s.tlenIn.toNat := by omega
    rw [State.buildCommand_of_gt p (s.buildCommand p) (by rwa [htlen]), State.buildCommand_of_gt p s hlong,
      State.raise_raise]

/-- DECODE writes no byte of FRAME, and FRAME is all it reads. -/
theorem State.decodeCommand_decodeCommand : (s.decodeCommand p).decodeCommand p = s.decodeCommand p := rfl

/-- RD changes no register, so the second RD reads the same value or fails for the same index. -/
theorem State.readCommand_readCommand (r : Byte) :
    (s.readCommand p r).readCommand p r = s.readCommand p r := by
  cases h : regOfIndex r with
  | none => simp [State.readCommand, h]
  | some reg => simp [State.readCommand, h]

/-- WR takes its branch from the index and the access right, and writes the same value again. -/
theorem State.writeCommand_writeCommand (r : Byte) (v : Word32) :
    (s.writeCommand r v).writeCommand r v = s.writeCommand r v := by
  cases h : regOfIndex r with
  | none => simp [State.writeCommand, h]
  | some reg =>
    cases ha : regAccess reg with
    | ro => simp [State.writeCommand, h, ha]
    | rw => simp [State.writeCommand, h, ha]

/-- Every command executed twice in a row leaves the state that it leaves once. -/
theorem after_after (i : Instr) : after i (after i s) = after i s := by
  cases i with
  | nop => rfl
  | build => exact s.buildCommand_buildCommand params
  | decode => exact s.decodeCommand_decodeCommand params
  | clrerr => rfl
  | rd r => exact s.readCommand_readCommand params r
  | wr r v => exact s.writeCommand_writeCommand r v

/-- RD of an implemented register only answers. -/
theorem exec_rd_of_regOfIndex (r : Byte) (reg : Reg) (h : regOfIndex r = some reg) :
    exec (.rd r) s = .next (answered s (s.readReg params reg)) := by
  rw [exec_eq_next, after, State.readCommand, h]
  rfl

end Idempotence

/-- Settles O42: `after` is idempotent for every command, error entry finds its bit set, and RD of an
implemented register only answers. -/
theorem commandsAreIdempotent : Obligations.CommandsAreIdempotent := by
  refine ⟨fun i s t h => ?_, State.raise_raise, fun s r hr => ?_⟩
  · obtain rfl : after i s = t := by simpa [exec_eq_next] using h
    rw [exec_eq_next, after_after]
  · obtain ⟨reg, hreg⟩ := Option.ne_none_iff_exists'.mp hr
    exact ⟨_, exec_rd_of_regOfIndex s r reg hreg⟩

end Sys2Proof.Machine

/-! The family 30_encoding.md: the opcode map decides which command a word names (R72), and a signed field's
byte is two's complement (R63). -/

namespace Sys2Proof

section CommandWords
/-! ### Command words by their two fields (30_encoding.md R71) -/

@[simp] theorem opField_append (op reg : Byte) : opField (op ++ reg) = op :=
  BitVec.extractLsb'_append_eq_left

@[simp] theorem regField_append (op reg : Byte) : regField (op ++ reg) = reg :=
  BitVec.extractLsb'_append_eq_right

/-- A word is its `op` field above its `reg` field. -/
theorem opField_append_regField (w : Word16) : opField w ++ regField w = w := by
  unfold opField regField
  rw [BitVec.extractLsb'_append_extractLsb'_eq_extractLsb' (show 8 = 0 + 8 from rfl)]
  exact BitVec.extractLsb'_eq_self

/-- A word with the fields of another is that word. -/
theorem append_eq_of_fields {w : Word16} {op reg : Byte} (hop : opField w = op) (hreg : regField w = reg) :
    op ++ reg = w := by
  rw [← hop, ← hreg, opField_append_regField]

/-- The command that a word decodes to has that word (30_encoding.md R72, R75). -/
theorem encode_cmd_of_decode {q : Request} {i : Instr} (h : decode q = .ok i) : (encode i).cmd = q.cmd := by
  simp only [decode] at h
  split_ifs at h <;> cases h
  · exact append_eq_of_fields ‹opField q.cmd = 0x10#8› rfl
  · exact append_eq_of_fields ‹opField q.cmd = 0x11#8› rfl
  · exact append_eq_of_fields ‹opField q.cmd = 0x00#8› ‹regField q.cmd = 0x00#8›
  · exact append_eq_of_fields ‹opField q.cmd = 0x01#8› ‹regField q.cmd = 0x00#8›
  · exact append_eq_of_fields ‹opField q.cmd = 0x02#8› ‹regField q.cmd = 0x00#8›
  · exact append_eq_of_fields ‹opField q.cmd = 0x03#8› ‹regField q.cmd = 0x00#8›

/-- The word of a command is not reserved, whatever data word comes with it (30_encoding.md R73, R75). -/
theorem decode_encode_cmd (i : Instr) (v : Word32) : ∃ j, decode ⟨(encode i).cmd, v⟩ = .ok j := by
  cases i with
  | nop => exact ⟨.nop, by simp [decode, encode, opField, regField]⟩
  | build => exact ⟨.build, by simp [decode, encode, opField, regField]⟩
  | decode => exact ⟨.decode, by simp [decode, encode, opField, regField]⟩
  | clrerr => exact ⟨.clrerr, by simp [decode, encode, opField, regField]⟩
  | rd r => exact ⟨.rd r, by simp [decode, encode]⟩
  | wr r u => exact ⟨.wr r v, by simp [decode, encode]⟩

end CommandWords

section OpcodeMap
/-! ### The rows of the opcode map (30_encoding.md R72) -/

/-- A row whose mask is all ones is selected by its pattern alone. -/
theorem OpcodeRow.selectedBy_fullMask {m : String} {p w : Word16} :
    OpcodeRow.selectedBy ⟨m, p, 0xFFFF#16⟩ w = true ↔ w = p := by
  have hmask : w &&& 0xFFFF#16 = w := BitVec.and_allOnes
  rw [OpcodeRow.selectedBy, hmask, beq_iff_eq]

/-- A word that selects a row whose mask covers `op` has the `op` of the row's pattern. -/
theorem OpcodeRow.opField_of_selectedBy {m : String} {p w : Word16}
    (h : OpcodeRow.selectedBy ⟨m, p, 0xFF00#16⟩ w = true) : opField w = opField p := by
  obtain rfl : w &&& 0xFF00#16 = p := by simpa [OpcodeRow.selectedBy] using h
  have hmask : opField 0xFF00#16 = BitVec.allOnes 8 := rfl
  calc opField w
      = opField w &&& opField 0xFF00#16 := by rw [hmask, BitVec.and_allOnes]
    _ = opField (w &&& 0xFF00#16) := BitVec.extractLsb'_and.symm

/-- A word that selects a row is the word of a command. -/
theorem exists_encode_cmd_of_selectedBy {row : OpcodeRow} {w : Word16} (hrow : row ∈ opcodeTable)
    (h : row.selectedBy w = true) : ∃ i, (encode i).cmd = w := by
  simp only [opcodeTable, List.mem_cons, List.not_mem_nil, or_false] at hrow
  obtain rfl | rfl | rfl | rfl | rfl | rfl := hrow
  · exact ⟨.nop, (OpcodeRow.selectedBy_fullMask.mp h).symm⟩
  · exact ⟨.build, (OpcodeRow.selectedBy_fullMask.mp h).symm⟩
  · exact ⟨.decode, (OpcodeRow.selectedBy_fullMask.mp h).symm⟩
  · exact ⟨.clrerr, (OpcodeRow.selectedBy_fullMask.mp h).symm⟩
  · exact ⟨.rd (regField w), append_eq_of_fields (OpcodeRow.opField_of_selectedBy h) rfl⟩
  · exact ⟨.wr (regField w) 0#32, append_eq_of_fields (OpcodeRow.opField_of_selectedBy h) rfl⟩

/-- Every command's word selects the row with the command's mnemonic alone. -/
theorem wordSelectsItsRow (i : Instr) : Laws.WordSelectsItsRow.Statement i := by
  cases i with
  | nop => exact Laws.WordSelectsItsRow.nop
  | build => exact Laws.WordSelectsItsRow.build
  | decode => exact Laws.WordSelectsItsRow.decode
  | clrerr => exact Laws.WordSelectsItsRow.clrerr
  | rd r => exact Laws.WordSelectsItsRow.rd r
  | wr r v => exact Laws.WordSelectsItsRow.wr r v

/-- A word that decodes to a command selects that command's row alone. -/
theorem rowsOf_of_decode {w : Word16} {v : Word32} {i : Instr} (h : decode ⟨w, v⟩ = .ok i) :
    Laws.rowsOf w = [i.mnemonic] := by
  obtain rfl := encode_cmd_of_decode h
  exact wordSelectsItsRow i

/-- A reserved word selects no row: a row would make it the word of a command. -/
theorem filter_selectedBy_of_reserved {w : Word16} {v : Word32} {why : ReservedWord}
    (h : decode ⟨w, v⟩ = .error why) : opcodeTable.filter (·.selectedBy w) = [] := by
  refine List.filter_eq_nil_iff.mpr fun row hrow hsel => ?_
  obtain ⟨i, rfl⟩ := exists_encode_cmd_of_selectedBy hrow hsel
  obtain ⟨j, hj⟩ := decode_encode_cmd i v
  rw [hj] at h
  cases h

/-- No word selects two rows: it names one command, whose row it selects, or it is reserved. -/
theorem length_filter_selectedBy_le_one (w : Word16) :
    (opcodeTable.filter (·.selectedBy w)).length ≤ 1 := by
  cases h : decode ⟨w, 0#32⟩ with
  | ok i =>
    have hlen := congrArg List.length (rowsOf_of_decode h)
    rw [Laws.rowsOf, List.length_map] at hlen
    exact hlen.le
  | error why => simp [filter_selectedBy_of_reserved h]

end OpcodeMap

/-- Settles O2: a word decodes to the command whose word it is, and that word selects the command's row
alone; a word that selects a row is no reserved one. -/
theorem opcodeMapDecidesTheCommand : Obligations.OpcodeMapDecidesTheCommand := by
  refine ⟨rfl, length_filter_selectedBy_le_one, fun w v => ?_⟩
  cases h : decode ⟨w, v⟩ with
  | ok i => exact ⟨rowsOf_of_decode h, encode_cmd_of_decode h⟩
  | error why => exact filter_selectedBy_of_reserved h

end Sys2Proof

namespace Sys2Proof.Machine

open Sys2Proof

section SignedBytes
/-! ### Signed bytes (30_encoding.md R63) -/

/-- `sint_8` is the signed reading of a bit vector. -/
theorem sint8_eq_toInt (b : Byte) : sint8 b = b.toInt := by
  rw [sint8, BitVec.toInt_eq_toNat_cond]
  split_ifs <;> omega

/-- `byte_of_sint` is the bit vector of an integer. -/
theorem byteOfSint_eq_ofInt (n : Int) : byteOfSint n = BitVec.ofInt 8 n := by
  apply BitVec.eq_of_toNat_eq
  have hlt : (n % 256).toNat < 256 := by omega
  simpa [byteOfSint] using hlt

theorem toNat_byteOfSint (n : Int) : ((byteOfSint n).toNat : Int) = n % 256 := by
  rw [byteOfSint_eq_ofInt, BitVec.toNat_ofInt]
  omega

theorem sint8_byteOfSint {n : Int} (hlo : -128 ≤ n) (hhi : n ≤ 127) : sint8 (byteOfSint n) = n := by
  rw [sint8_eq_toInt, byteOfSint_eq_ofInt, BitVec.toInt_ofInt]
  exact Int.bmod_eq_of_le hlo (by omega)

theorem byteOfSint_sint8 (b : Byte) : byteOfSint (sint8 b) = b := by
  rw [sint8_eq_toInt, byteOfSint_eq_ofInt, BitVec.ofInt_toInt]

theorem sint8_bounds (b : Byte) : -128 ≤ sint8 b ∧ sint8 b ≤ 127 := by
  rw [sint8_eq_toInt]
  exact ⟨b.le_toInt, Int.le_of_lt_add_one b.toInt_lt⟩

end SignedBytes

/-- Settles O30: both functions are the library's two's complement of 8 bits. -/
theorem signedBytesAreTwosComplement : Obligations.SignedBytesAreTwosComplement :=
  ⟨fun n hlo hhi => ⟨sint8_byteOfSint hlo hhi, toNat_byteOfSint n⟩,
    fun b => ⟨byteOfSint_sint8 b, sint8_bounds b⟩, rfl, rfl, rfl, rfl, rfl⟩

end Sys2Proof.Machine

/-! The family 40_build.md: BUILD is `build_beacon` of its operands (R90, R91), byte by byte (R93, R94), refuses
a long text before any write (R92), and reads nothing else (R95). -/

namespace Sys2Proof.Machine

open Sys2Proof

section PackedFields
/-! ### Where a packed frame holds its array fields (30_encoding.md R61) -/

variable (o : ByteOrder) (r : FieldRecord)

theorem getElem_pack_hw (i : Nat) (hi : i < 6) : (pack o r)[2 + i] = r.hw[i] := by
  rw [getElem_pack, dif_pos (by omega), dif_pos (by omega), dif_pos (by omega), dif_neg (by omega)]
  simp only [Nat.add_sub_cancel_left]

theorem getElem_pack_freq (i : Nat) (hi : i < 4) : (pack o r)[8 + i] = (bytes4 o r.freq)[i] := by
  rw [getElem_pack, dif_pos (by omega), dif_pos (by omega), dif_neg (by omega)]
  simp only [Nat.add_sub_cancel_left]

theorem getElem_pack_tx (i : Nat) (hi : i < 16) : (pack o r)[16 + i] = r.tx[i] := by
  rw [getElem_pack, dif_neg (by omega)]
  simp only [Nat.add_sub_cancel_left]

end PackedFields

/-- A byte of the text field: the text's own, then 0x00 (30_encoding.md R68). -/
theorem getElem_padText (t : List Byte) (h : t.length ≤ textMaxChars) (i : Nat) (hi : i < 16) :
    (padText t h)[i] = if hlt : i < t.length then t[i] else 0x00#8 := by
  simp [padText, List.getElem_append]

section BuildOperands
/-! ### The built frame and the operands (40_build.md R90, R91) -/

variable (p : Params) (s : State)

/-- The text that BUILD reads from the operands has `TLEN_IN` bytes while they fit the text registers. -/
theorem State.length_takeText (hle : s.tlenIn.toNat ≤ 15) :
    (s.textIn.toList.take s.tlenIn.toNat).length = s.tlenIn.toNat := by
  rw [List.length_take, Vector.length_toList]
  omega

theorem State.length_takeText_le (hle : s.tlenIn.toNat ≤ 15) :
    (s.textIn.toList.take s.tlenIn.toNat).length ≤ textMaxChars :=
  (s.length_takeText hle).trans_le hle

/-- Byte `i` of the text field that BUILD makes (40_build.md R91). -/
theorem State.getElem_buildRecord_tx (i : Nat) (hi : i < 16) :
    (s.buildRecord p).tx[i] = if i < s.tlenIn.toNat then s.textIn[i] else 0x00#8 :=
  Vector.getElem_ofFn hi

/-- The text field that BUILD makes is the operand text, padded. -/
theorem State.padText_takeText (hle : s.tlenIn.toNat ≤ 15) :
    padText (s.textIn.toList.take s.tlenIn.toNat) (s.length_takeText_le hle) = (s.buildRecord p).tx := by
  ext i hi : 1
  rw [getElem_padText, State.getElem_buildRecord_tx]
  simp only [s.length_takeText hle]
  split
  · rw [List.getElem_take, Vector.getElem_toList]
  · rfl

/-- `build_beacon` of the operands packs the record that BUILD writes. -/
theorem State.buildBeacon_operands (hle : s.tlenIn.toNat ≤ 15) :
    buildBeacon p s.seqIn (s.textIn.toList.take s.tlenIn.toNat)
        ⟨s.freqIn, s.bwIn, s.sfIn, s.crIn, s.rssiIn⟩ =
      some (pack p.byteOrder (s.buildRecord p)) := by
  rw [buildBeacon, dif_pos (s.length_takeText_le hle), s.padText_takeText p hle]
  rfl

/-- BUILD of a short text as a record equation over `build_beacon` (40_build.md R91). -/
theorem State.buildCommand_eq_answered (hle : s.tlenIn.toNat ≤ 15) :
    ∃ f, buildBeacon p s.seqIn (s.textIn.toList.take s.tlenIn.toNat)
        ⟨s.freqIn, s.bwIn, s.sfIn, s.crIn, s.rssiIn⟩ = some f ∧
      s.buildCommand p = answered { s with frame := f } 0#32 :=
  ⟨_, s.buildBeacon_operands p hle, s.buildCommand_of_le p hle⟩

/-- BUILD of a long text is error entry with PayloadTooLong (40_build.md R92). -/
theorem State.buildCommand_eq_failedWith (hgt : 15 < s.tlenIn.toNat) :
    s.buildCommand p = failedWith s 0x01#8 0x01#8 :=
  s.buildCommand_of_gt p hgt

theorem State.buildCommand_frame_of_le (hle : s.tlenIn.toNat ≤ 15) :
    (s.buildCommand p).frame = pack p.byteOrder (s.buildRecord p) := by
  rw [s.buildCommand_of_le p hle, State.respondOk_frame]

theorem State.buildCommand_response_of_le (hle : s.tlenIn.toNat ≤ 15) :
    (s.buildCommand p).response = some ⟨0x00#8, 0#32⟩ := by
  rw [s.buildCommand_of_le p hle]
  rfl

theorem State.buildCommand_response_of_gt (hgt : 15 < s.tlenIn.toNat) :
    (s.buildCommand p).response = some ⟨0x01#8, 0#32⟩ := by
  rw [s.buildCommand_of_gt p hgt]
  rfl

theorem State.buildCommand_status_of_le (hle : s.tlenIn.toNat ≤ 15) :
    (s.buildCommand p).status = s.status := by
  rw [s.buildCommand_of_le p hle, State.respondOk_status]

/-- Byte `i` of the text field of a built frame (40_build.md R91). -/
theorem State.getElem_buildCommand_text (hle : s.tlenIn.toNat ≤ 15) (i : Nat) (hi : i < 16) :
    (s.buildCommand p).frame[16 + i] = if i < s.tlenIn.toNat then s.textIn[i] else 0x00#8 := by
  simp only [s.buildCommand_frame_of_le p hle]
  rw [getElem_pack_tx _ _ i hi, State.getElem_buildRecord_tx]

/-- The fields of a built frame are the operands' alone. -/
theorem State.buildRecord_congr (t : State) (h : SameOperands s t) : s.buildRecord p = t.buildRecord p := by
  obtain ⟨hseq, hrssi, hbw, hsf, hcr, htlen, hfreq, htext⟩ := h
  unfold State.buildRecord State.textLength
  rw [hseq, hrssi, hbw, hsf, hcr, htlen, hfreq, htext]

end BuildOperands

/-- The word of BUILD decodes to BUILD whatever data word comes with it (30_encoding.md R72, R73). -/
theorem decode_buildWord (v : Word32) : decode ⟨0x0100#16, v⟩ = .ok .build := by
  simp [decode, opField, regField]

/-- Settles O16: BUILD packs the record that `build_beacon` packs of the operands, or raises; `exec` runs it
under `params`. -/
theorem buildRefinesBuildBeacon : Obligations.BuildRefinesBuildBeacon := by
  refine ⟨fun p s => s.buildCommand_eq_answered p, fun p s => s.buildCommand_eq_failedWith p,
    fun s hle => ?_, fun s hgt => ?_, decode_buildWord⟩
  · obtain ⟨f, hf, hcmd⟩ := s.buildCommand_eq_answered params hle
    exact ⟨f, hf, by rw [exec_eq_next, after, hcmd]⟩
  · rw [exec_eq_next, after, s.buildCommand_eq_failedWith params hgt]

/-- Settles O17: each byte of the packed operands, by the field it lies in. -/
theorem builtFrameByteByByte : Obligations.BuiltFrameByteByByte := by
  intro p s hle
  have htext := s.getElem_buildCommand_text p hle
  rw [s.buildCommand_frame_of_le p hle] at htext ⊢
  have hbyte := getElem_pack p.byteOrder (s.buildRecord p)
  have hfreq := getElem_pack_freq p.byteOrder (s.buildRecord p)
  refine ⟨hbyte 0 (by omega), hbyte 1 (by omega), fun i => getElem_pack_hw _ _ i i.isLt, ?le, ?be,
    hbyte 12 (by omega), hbyte 13 (by omega), hbyte 14 (by omega), hbyte 15 (by omega),
    fun i => htext i i.isLt⟩
  case le =>
    intro ho
    rw [ho] at hfreq ⊢
    exact ⟨hfreq 0 (by omega), hfreq 1 (by omega), hfreq 2 (by omega), hfreq 3 (by omega)⟩
  case be =>
    intro ho
    rw [ho] at hfreq ⊢
    exact ⟨hfreq 0 (by omega), hfreq 1 (by omega), hfreq 2 (by omega), hfreq 3 (by omega)⟩

/-- Settles O18: the length decides the branch, and the corner lengths 0 and 15 follow from the byte of the
text field at each offset. -/
theorem buildRejectsALongText : Obligations.BuildRejectsALongText := by
  intro s
  refine ⟨fun hgt => ?long, fun hle => ⟨s.buildCommand params, exec_eq_next .build s,
    s.buildCommand_response_of_le params hle, s.buildCommand_status_of_le params hle, ?last, ?full, ?empty⟩⟩
  case long => rw [exec_eq_next, after, s.buildCommand_eq_failedWith params hgt]
  case last => exact (s.getElem_buildCommand_text params hle 15 (by omega)).trans (if_neg (by omega))
  case full =>
    intro i htlen
    have hlt : i.val < s.tlenIn.toNat := by rw [htlen]; exact i.isLt
    exact (s.getElem_buildCommand_text params hle i (by omega)).trans (if_pos hlt)
  case empty =>
    intro i htlen
    have hge : ¬ i.val < s.tlenIn.toNat := by rw [htlen]; exact Nat.not_lt_zero _
    exact (s.getElem_buildCommand_text params hle i i.isLt).trans (if_neg hge)

/-- Settles O19: equal operands take the same branch, and on success pack the same record. -/
theorem buildDependsOnOperandsOnly : Obligations.BuildDependsOnOperandsOnly := by
  intro p s t hsame
  have hrec := s.buildRecord_congr p t hsame
  obtain ⟨-, -, -, -, -, htlen, -, -⟩ := hsame
  by_cases hle : s.tlenIn.toNat ≤ 15
  · have hle' : t.tlenIn.toNat ≤ 15 := htlen ▸ hle
    rw [s.buildCommand_response_of_le p hle, t.buildCommand_response_of_le p hle',
      s.buildCommand_frame_of_le p hle, t.buildCommand_frame_of_le p hle', hrec]
    exact ⟨rfl, fun _ => rfl⟩
  · have hgt : 15 < s.tlenIn.toNat := Nat.lt_of_not_le hle
    have hgt' : 15 < t.tlenIn.toNat := htlen ▸ hgt
    rw [s.buildCommand_response_of_gt p hgt, t.buildCommand_response_of_gt p hgt']
    exact ⟨rfl, by simp⟩

end Sys2Proof.Machine

/-! The family 41_decode.md: DECODE is `decode_beacon` of FRAME (R100, R101) and writes the results alone (R107);
it undoes BUILD (R104), and BUILD undoes it on the frames this endpoint can build (R106). -/

namespace Sys2Proof.Machine

open Sys2Proof

section FrameRecord
/-! ### A frame and its nine fields (30_encoding.md R69) -/

variable (o : ByteOrder) (r : FieldRecord) (b : Frame)

/-- Each of four bytes in a row is the one at its place, the last at bit 0. -/
theorem extractLsb'_append_bytes (x0 x1 x2 x3 : Byte) :
    (x3 ++ x2 ++ x1 ++ x0).extractLsb' 0 8 = x0 ∧ (x3 ++ x2 ++ x1 ++ x0).extractLsb' 8 8 = x1 ∧
    (x3 ++ x2 ++ x1 ++ x0).extractLsb' 16 8 = x2 ∧ (x3 ++ x2 ++ x1 ++ x0).extractLsb' 24 8 = x3 := by
  refine ⟨BitVec.extractLsb'_append_eq_right, ?_, ?_, ?_⟩
  · rw [BitVec.extractLsb'_append_eq_of_le (by omega)]
    exact BitVec.extractLsb'_append_eq_right
  · rw [BitVec.extractLsb'_append_eq_of_le (by omega), BitVec.extractLsb'_append_eq_of_le (by omega)]
    exact BitVec.extractLsb'_append_eq_right
  · rw [BitVec.extractLsb'_append_eq_of_le (by omega), BitVec.extractLsb'_append_eq_of_le (by omega)]
    exact BitVec.extractLsb'_append_eq_left

/-- `bytes4` takes apart the 32-bit pattern that `word4` puts together. -/
theorem bytes4_word4 (b0 b1 b2 b3 : Byte) : bytes4 o (word4 o b0 b1 b2 b3) = #v[b0, b1, b2, b3] := by
  cases o with
  | le =>
    obtain ⟨h0, h1, h2, h3⟩ := extractLsb'_append_bytes b0 b1 b2 b3
    simp only [bytes4, word4, h0, h1, h2, h3]
  | be =>
    obtain ⟨h3, h2, h1, h0⟩ := extractLsb'_append_bytes b3 b2 b1 b0
    simp only [bytes4, word4, h0, h1, h2, h3]

/-- The value of a bit vector with one byte appended below it. -/
theorem toNat_append_byte {n : Nat} (x : BitVec n) (y : Byte) : (x ++ y).toNat = x.toNat * 2 ^ 8 + y.toNat := by
  rw [BitVec.toNat_append, ← Nat.shiftLeft_add_eq_or_of_lt y.isLt, Nat.shiftLeft_eq]

/-- The value of a pattern read least significant byte first (30_encoding.md R66). -/
theorem toNat_word4_le (b0 b1 b2 b3 : Byte) : (word4 .le b0 b1 b2 b3).toNat =
    b3.toNat * 2 ^ 24 + b2.toNat * 2 ^ 16 + b1.toNat * 2 ^ 8 + b0.toNat := by
  simp only [word4, toNat_append_byte]
  omega

/-- Most significant byte first is least significant first of the bytes turned round. -/
theorem word4_be (b0 b1 b2 b3 : Byte) : word4 .be b0 b1 b2 b3 = word4 .le b3 b2 b1 b0 := rfl

/-- The address field, as DECODE reads it. -/
theorem unpack_hw : (unpack o b).hw = memReadRange 6 2 (by omega) b := by
  ext i hi : 1
  rw [getElem_memReadRange]
  interval_cases i <;> rfl

/-- The frequency field, as DECODE reads it. -/
theorem unpack_freq : (unpack o b).freq = memRead4 o b 8 := (memRead4_eq_word4 o b 8).symm

/-- The text field, as DECODE reads it. -/
theorem unpack_tx : (unpack o b).tx = memReadRange 16 16 (by omega) b := by
  ext i hi : 1
  rw [getElem_memReadRange]
  interval_cases i <;> rfl

theorem getElem_unpack_hw (i : Nat) (hi : i < 6) : (unpack o b).hw[i] = b[2 + i] := by
  simp only [unpack_hw, getElem_memReadRange]

theorem getElem_unpack_tx (i : Nat) (hi : i < 16) : (unpack o b).tx[i] = b[16 + i] := by
  simp only [unpack_tx, getElem_memReadRange]

/-- The fields read back from a packed frame are those packed: each at the place where `pack` put it. -/
theorem unpack_pack : unpack o (pack o r) = r := by
  have hbyte := getElem_pack o r
  have hhw : (unpack o (pack o r)).hw = r.hw := Vector.ext fun i hi =>
    (getElem_unpack_hw o _ i hi).trans (getElem_pack_hw o r i hi)
  have hfreq : (unpack o (pack o r)).freq = r.freq := by
    have hbyte4 := getElem_pack_freq o r
    calc (unpack o (pack o r)).freq
        = word4 o (bytes4 o r.freq)[0] (bytes4 o r.freq)[1] (bytes4 o r.freq)[2] (bytes4 o r.freq)[3] := by
          rw [← hbyte4 0, ← hbyte4 1, ← hbyte4 2, ← hbyte4 3]
          rfl
      _ = r.freq := word4_bytes4 o r.freq
  have htx : (unpack o (pack o r)).tx = r.tx := Vector.ext fun i hi =>
    (getElem_unpack_tx o _ i hi).trans (getElem_pack_tx o r i hi)
  cases r
  simp only [FieldRecord.mk.injEq, unpack] at hhw hfreq htx ⊢
  exact ⟨hbyte 0 (by omega), hbyte 1 (by omega), hhw, hfreq, hbyte 12 (by omega), hbyte 13 (by omega),
    hbyte 14 (by omega), hbyte 15 (by omega), htx⟩

/-- Packing the nine fields of a frame gives the frame again: the fields lie one after another and leave no
byte out. -/
theorem pack_unpack : pack o (unpack o b) = b := by
  have hfreq : bytes4 o (unpack o b).freq = #v[b[8], b[9], b[10], b[11]] := bytes4_word4 o _ _ _ _
  ext j hj : 1
  rw [getElem_pack]
  split_ifs with h16 h12 h8 h2
  · interval_cases j
    · rfl
    · rfl
  · simp only [getElem_unpack_hw, Nat.add_sub_cancel' (Nat.le_of_not_lt h2)]
  · simp only [hfreq]
    interval_cases j <;> rfl
  · interval_cases j <;> rfl
  · simp only [getElem_unpack_tx, Nat.add_sub_cancel' (Nat.le_of_not_lt h16)]

/-- A record packs to a frame exactly when it holds the frame's fields. -/
theorem pack_eq_iff : pack o r = b ↔ r = unpack o b := by
  constructor
  · rintro rfl
    exact (unpack_pack o r).symm
  · rintro rfl
    exact pack_unpack o b

end FrameRecord

section TextLength
/-! ### The length of a text (41_decode.md R103) -/

variable (tx : Vector Byte 16)

theorem textLen_le : textLen tx ≤ 16 :=
  List.findIdx_le_length.trans_eq tx.length_toList

/-- The length is the index of the first 0x00. -/
theorem textLen_eq_iff (i : Nat) (hi : i < 16) :
    textLen tx = i ↔ tx[i] = 0x00#8 ∧ ∀ (j : Nat) (hj : j < i), tx[j] ≠ 0x00#8 := by
  rw [textLen, List.findIdx_eq (by rwa [Vector.length_toList])]
  simp only [Vector.getElem_toList, beq_iff_eq, beq_eq_false_iff_ne]

/-- A length fits the 8 bits of `TLEN_OUT`. -/
theorem toNat_ofNat_textLen : (BitVec.ofNat 8 (textLen tx)).toNat = textLen tx := by
  have hle := textLen_le tx
  rw [BitVec.toNat_ofNat, Nat.mod_eq_of_lt (by omega)]

/-- The length of a padded text without 0x00 is the text's own. -/
theorem textLen_padText (t : List Byte) (h : t.length ≤ textMaxChars) (hnul : 0x00#8 ∉ t) :
    textLen (padText t h) = t.length := by
  rw [textLen_eq_iff _ _ (Nat.lt_succ_of_le h)]
  refine ⟨?stop, fun j hj => ?before⟩
  case stop => rw [getElem_padText, dif_neg (Nat.lt_irrefl _)]
  case before =>
    rw [getElem_padText, dif_pos hj]
    exact fun hzero => hnul (hzero ▸ List.getElem_mem hj)

end TextLength

section DecodedResults
/-! ### What DECODE leaves (41_decode.md R101, R107) -/

/-- The nine fields that the result registers hold. `TLEN_OUT` is not a field of a frame. -/
def State.resultRecord (s : State) : FieldRecord where
  rssiUp := s.rssiUpOut
  rssiDown := s.rssiDnOut
  hw := s.hwaddrOut
  freq := s.freqOut
  seq := s.seqOut
  bw := s.bwOut
  sf := s.sfOut
  cr := s.crOut
  tx := s.textOut

variable (p : Params) (s : State)

/-- DECODE as a record equation over `decode_beacon`: each result is its field of FRAME. -/
theorem State.decodeCommand_eq_answered :
    s.decodeCommand p = answered
      { s with
        rssiUpOut := (unpack p.byteOrder s.frame).rssiUp, rssiDnOut := (unpack p.byteOrder s.frame).rssiDown,
        hwaddrOut := (unpack p.byteOrder s.frame).hw, freqOut := (unpack p.byteOrder s.frame).freq,
        seqOut := (unpack p.byteOrder s.frame).seq, bwOut := (unpack p.byteOrder s.frame).bw,
        sfOut := (unpack p.byteOrder s.frame).sf, crOut := (unpack p.byteOrder s.frame).cr,
        textOut := (unpack p.byteOrder s.frame).tx,
        tlenOut := BitVec.ofNat 8 (textLen (unpack p.byteOrder s.frame).tx) } 0#32 := by
  rw [unpack_hw, unpack_freq, unpack_tx]
  rfl

/-- The result registers after DECODE hold the fields of FRAME. -/
theorem State.decodeCommand_resultRecord :
    (s.decodeCommand p).resultRecord = unpack p.byteOrder s.frame := by
  rw [State.decodeCommand_eq_answered]
  rfl

/-- `TLEN_OUT` after DECODE is the length of the text in `TEXT_OUT`, with nothing cut off. -/
theorem State.decodeCommand_tlenOut :
    (s.decodeCommand p).tlenOut.toNat = textLen (s.decodeCommand p).textOut :=
  toNat_ofNat_textLen (s.decodeCommand p).textOut

/-- `TEXT_OUT` after DECODE is the last 16 bytes of FRAME. -/
theorem State.getElem_decodeCommand_textOut (i : Nat) (hi : i < 16) :
    (s.decodeCommand p).textOut[i] = s.frame[16 + i] :=
  getElem_memReadRange 16 16 (by omega) s.frame i hi

/-- `HWADDR_OUT` after DECODE is the address field of FRAME. -/
theorem State.getElem_decodeCommand_hwaddrOut (i : Nat) (hi : i < 6) :
    (s.decodeCommand p).hwaddrOut[i] = s.frame[2 + i] :=
  getElem_memReadRange 6 2 (by omega) s.frame i hi

/-- `FREQ_OUT` after DECODE is the pattern of bytes 8 to 11 of FRAME. -/
theorem State.decodeCommand_freqOut :
    (s.decodeCommand p).freqOut = word4 p.byteOrder s.frame[8] s.frame[9] s.frame[10] s.frame[11] :=
  memRead4_eq_word4 p.byteOrder s.frame 8

end DecodedResults

/-- The word of DECODE decodes to DECODE whatever data word comes with it (30_encoding.md R72, R73). -/
theorem decode_decodeWord (v : Word32) : decode ⟨0x0200#16, v⟩ = .ok .decode := by
  simp [decode, opField, regField]

/-- Settles O20: `decode_beacon` is the fields of FRAME and the length of its text; `exec` runs DECODE under
`params`. -/
theorem decodeRefinesDecodeBeacon : Obligations.DecodeRefinesDecodeBeacon :=
  ⟨fun p s => s.decodeCommand_eq_answered p, exec_eq_next .decode, decode_decodeWord⟩

/-- Settles O21: each result register is its field of FRAME, and a field of one byte is that byte. -/
theorem decodedRegistersByteByByte : Obligations.DecodedRegistersByteByByte := by
  intro p s
  have hfreq := s.decodeCommand_freqOut p
  refine ⟨rfl, rfl, fun i => s.getElem_decodeCommand_hwaddrOut p i i.isLt, ?le, ?be, rfl, rfl, rfl, rfl,
    fun i => s.getElem_decodeCommand_textOut p i i.isLt, s.decodeCommand_tlenOut p,
    ⟨rfl, rfl, rfl, rfl, rfl, rfl, rfl, rfl⟩, rfl, rfl, rfl⟩
  case le =>
    intro ho
    rw [hfreq, ho, toNat_word4_le]
  case be =>
    intro ho
    rw [hfreq, ho, word4_be, toNat_word4_le]

section ServeOneCommand
/-! ### One request served -/

/-- The decoder reads back the word of every command (30_encoding.md R75). -/
@[simp] theorem decode_encode (c : Instr) : decode (encode c) = .ok c := by
  cases c with
  | rd r => simp [decode, encode]
  | wr r v => simp [decode, encode]
  | _ => rfl

/-- A request at the head of the queue is served by the command it encodes, before the moves behind it. -/
theorem step_of_command (c : Instr) (rest : List HostInput) (s : State)
    (h : s.inputs = .request (encode c) :: rest) : step s = .next (after c { s with inputs := rest }) := by
  simp [step, State.nextInput_cons s _ rest h, exec_eq_next]

/-- The block serves one issued command by executing it. -/
theorem serve_command (c : Instr) (s : State) : serve (requestsOf [c]) s = .next (after c s) :=
  run_succ 0 _ _ (step_of_command c s.inputs _ rfl)

end ServeOneCommand

section BuildThenDecode
/-! ### DECODE undoes BUILD (41_decode.md R104) -/

variable (p : Params) (s : State)

/-- The results in `t` are the operands in `s`, `HW_ADDR` and 0, the text cut at `TLEN_IN` and its length the
index of the first 0x00 (41_decode.md R104). -/
def RecoversOperands (t : State) : Prop :=
  t.rssiUpOut = 0x00#8 ∧ t.rssiDnOut = s.rssiIn ∧ t.hwaddrOut = p.hwAddr ∧ t.freqOut = s.freqIn ∧
  t.seqOut = s.seqIn ∧ t.bwOut = s.bwIn ∧ t.sfOut = s.sfIn ∧ t.crOut = s.crIn ∧
  (∀ i : Fin 16, t.textOut[i] = if i.val < s.tlenIn.toNat then s.textIn[i] else 0x00#8) ∧
  (nulFreeText s = true → t.tlenOut = s.tlenIn) ∧
  ∀ i : Fin 16, i.val < s.tlenIn.toNat → s.textIn[i] = 0x00#8 →
    (∀ j : Fin 16, j < i → s.textIn[j] ≠ 0x00#8) → t.tlenOut.toNat = i.val

/-- A text without 0x00 stands in the built field with all its bytes. -/
theorem State.textLen_buildRecord_of_nulFree (hle : s.tlenIn.toNat ≤ 15) (hnul : nulFreeText s = true) :
    textLen (s.buildRecord p).tx = s.tlenIn.toNat := by
  have hnotMem : 0x00#8 ∉ s.textIn.toList.take s.tlenIn.toNat := fun hmem =>
    bne_iff_ne.mp (List.all_eq_true.mp hnul _ hmem) rfl
  rw [← s.padText_takeText p hle, textLen_padText _ _ hnotMem, s.length_takeText hle]

/-- A text with a 0x00 stands in the built field up to the first one. -/
theorem State.textLen_buildRecord_of_zero (i : Fin 16) (hlt : i.val < s.tlenIn.toNat)
    (hzero : s.textIn[i] = 0x00#8) (hfirst : ∀ j : Fin 16, j < i → s.textIn[j] ≠ 0x00#8) :
    textLen (s.buildRecord p).tx = i.val := by
  rw [textLen_eq_iff _ _ i.isLt]
  refine ⟨?stop, fun j hj => ?before⟩
  case stop => rw [State.getElem_buildRecord_tx, if_pos hlt]; exact hzero
  case before =>
    rw [State.getElem_buildRecord_tx, if_pos (hj.trans hlt)]
    exact hfirst ⟨j, hj.trans i.isLt⟩ hj

/-- Result registers that hold the record that BUILD packs, and the length of its text, give the operands
back. -/
theorem recoversOperands_of_resultRecord (t : State) (hle : s.tlenIn.toNat ≤ 15)
    (hrec : t.resultRecord = s.buildRecord p) (hlen : t.tlenOut.toNat = textLen t.textOut) :
    RecoversOperands p s t := by
  have htext : t.textOut = (s.buildRecord p).tx := congrArg FieldRecord.tx hrec
  rw [htext] at hlen
  refine ⟨congrArg FieldRecord.rssiUp hrec, congrArg FieldRecord.rssiDown hrec, congrArg FieldRecord.hw hrec,
    congrArg FieldRecord.freq hrec, congrArg FieldRecord.seq hrec, congrArg FieldRecord.bw hrec,
    congrArg FieldRecord.sf hrec, congrArg FieldRecord.cr hrec, fun i => ?text, fun hnul => ?full,
    fun i hlt hzero hfirst => ?cut⟩
  case text => rw [htext]; exact s.getElem_buildRecord_tx p i i.isLt
  case full => exact BitVec.eq_of_toNat_eq (hlen.trans (s.textLen_buildRecord_of_nulFree p hle hnul))
  case cut => exact hlen.trans (s.textLen_buildRecord_of_zero p i hlt hzero hfirst)

/-- DECODE of a frame that BUILD made leaves the fields that BUILD packed, from whatever state. -/
theorem State.decodeCommand_recoversOperands (u : State) (hle : s.tlenIn.toNat ≤ 15)
    (hframe : u.frame = (s.buildCommand p).frame) : RecoversOperands p s (u.decodeCommand p) := by
  have hrec : (u.decodeCommand p).resultRecord = s.buildRecord p := by
    rw [u.decodeCommand_resultRecord p, hframe, s.buildCommand_frame_of_le p hle, unpack_pack]
  exact recoversOperands_of_resultRecord p s _ hle hrec (u.decodeCommand_tlenOut p)

end BuildThenDecode

/-- Settles O32: the request DECODE is served by `decodeCommand`, which unpacks what BUILD packed; so do the
pure functions. -/
theorem buildThenDecodeRecoversTheFields : Obligations.BuildThenDecodeRecoversTheFields := by
  refine ⟨fun s u mid hle _ hframe => ⟨_, serve_command .decode u, ?moves⟩, fun p s hle => ?direct,
    fun p seq text radio hle => ⟨_, dif_pos hle, ?fields, rfl, fun hnul => ?len⟩⟩
  case moves => exact s.decodeCommand_recoversOperands params u hle hframe
  case direct => exact s.decodeCommand_recoversOperands p _ hle rfl
  case fields => exact unpack_pack ..
  case len => rw [decodeBeacon, unpack_pack, textLen_padText text hle hnul]

section DecodeThenBuild
/-! ### BUILD undoes DECODE on this endpoint's own frames (41_decode.md R106) -/

variable (p : Params) (d : State)

/-- The host copies every result register that BUILD has an operand for (41_decode.md R106). -/
def State.copyResults : State :=
  { d with
    rssiIn := d.rssiDnOut, freqIn := d.freqOut, seqIn := d.seqOut, bwIn := d.bwOut, sfIn := d.sfOut,
    crIn := d.crOut, tlenIn := d.tlenOut, textIn := d.textOut }

@[simp] theorem State.copyResults_tlenIn : d.copyResults.tlenIn = d.tlenOut := rfl

/-- The text field that BUILD makes of the copied results is `TEXT_OUT` exactly when only 0x00 stands behind
the text. -/
theorem State.buildRecord_copyResults_tx_eq_iff : (d.copyResults.buildRecord p).tx = d.textOut ↔
    ∀ i : Fin 16, d.tlenOut.toNat ≤ i.val → d.textOut[i] = 0x00#8 := by
  have hbyte (i : Nat) (hi : i < 16) : (d.copyResults.buildRecord p).tx[i] =
      if i < d.tlenOut.toNat then d.textOut[i] else 0x00#8 := d.copyResults.getElem_buildRecord_tx p i hi
  constructor
  · intro heq i hge
    have hi := hbyte i i.isLt
    simp only [heq, if_neg (Nat.not_lt.mpr hge)] at hi
    exact hi
  · intro hpad
    ext i hi : 1
    rw [hbyte i hi]
    split
    · rfl
    next hge => exact (hpad ⟨i, hi⟩ (Nat.le_of_not_lt hge)).symm

/-- BUILD packs the copied results unchanged exactly when they hold what BUILD puts there itself: 0 for
`rssi_up`, `HW_ADDR`, and 0x00 behind the text. -/
theorem State.buildRecord_copyResults_eq_iff : d.copyResults.buildRecord p = d.resultRecord ↔
    d.rssiUpOut = 0x00#8 ∧ (∀ i : Fin 6, d.hwaddrOut[i] = p.hwAddr[i]) ∧
      ∀ i : Fin 16, d.tlenOut.toNat ≤ i.val → d.textOut[i] = 0x00#8 := by
  rw [← State.buildRecord_copyResults_tx_eq_iff p d]
  constructor
  · intro heq
    have hhw : p.hwAddr = d.hwaddrOut := congrArg FieldRecord.hw heq
    exact ⟨(congrArg FieldRecord.rssiUp heq).symm, fun i => by rw [hhw], congrArg FieldRecord.tx heq⟩
  · rintro ⟨hrssi, hhw, htx⟩
    have hhw' : p.hwAddr = d.hwaddrOut := Vector.ext fun i hi => (hhw ⟨i, hi⟩).symm
    exact FieldRecord.mk.injEq .. |>.mpr ⟨hrssi.symm, rfl, hhw', rfl, rfl, rfl, rfl, rfl, htx⟩

variable (s : State)

/-- With a terminator in the text the second BUILD succeeds, and gives FRAME again when it packs what was
unpacked. -/
theorem State.rebuild_frame_eq_iff : textLen (s.decodeCommand p).textOut ≤ 15 →
    (((s.decodeCommand p).copyResults.buildCommand p).frame = s.frame ↔
      s.frame[0] = 0x00#8 ∧ (∀ i : Fin 6, s.frame[2 + i.val] = p.hwAddr[i]) ∧
        ∀ i : Fin 16, textLen (s.decodeCommand p).textOut ≤ i.val → s.frame[16 + i.val] = 0x00#8) := by
  intro hle
  have hlen : (s.decodeCommand p).copyResults.tlenIn.toNat ≤ 15 := by
    rwa [State.copyResults_tlenIn, s.decodeCommand_tlenOut p]
  rw [State.buildCommand_frame_of_le p _ hlen, pack_eq_iff, ← s.decodeCommand_resultRecord p,
    State.buildRecord_copyResults_eq_iff, s.decodeCommand_tlenOut p]
  simp only [Fin.getElem_fin, s.getElem_decodeCommand_hwaddrOut p, s.getElem_decodeCommand_textOut p]
  rfl

end DecodeThenBuild

/-- Settles O33: the terminator decides whether the second BUILD succeeds; when it does, packing is one to one,
so the frame comes back exactly when its fields do. -/
theorem decodeThenBuildReproducesOwnFrames : Obligations.DecodeThenBuildReproducesOwnFrames := by
  intro p s d c e
  have htlen : c.tlenIn.toNat = textLen d.textOut := s.decodeCommand_tlenOut p
  refine ⟨?own, fun hfull => c.buildCommand_eq_failedWith p (by omega), ?pack⟩
  case own =>
    by_cases hle : textLen d.textOut ≤ 15
    · have hok : e.response = some ⟨0x00#8, 0#32⟩ := c.buildCommand_response_of_le p (htlen.trans_le hle)
      have hframe := State.rebuild_frame_eq_iff p s hle
      constructor
      · rintro ⟨-, heq⟩
        obtain ⟨hrssi, hhw, hpad⟩ := hframe.mp heq
        exact ⟨hrssi, hhw, hle, hpad⟩
      · rintro ⟨hrssi, hhw, -, hpad⟩
        exact ⟨hok, hframe.mpr ⟨hrssi, hhw, hpad⟩⟩
    · have hfail : e.response = some ⟨0x01#8, 0#32⟩ := c.buildCommand_response_of_gt p (by omega)
      constructor
      · rintro ⟨hok, -⟩
        rw [hfail] at hok
        simp at hok
      · rintro ⟨-, -, hle', -⟩
        exact absurd hle' hle
  case pack => exact (pack_eq_iff ..).mpr (s.decodeCommand_resultRecord p)

end Sys2Proof.Machine

/-! The family 42_register_access.md: what RD answers (R110), what WR stores (R111), and the indices on which
they fail (R113). -/

namespace Sys2Proof.Machine

open Sys2Proof

section IndexSets
/-! ### The reserved and the writable indices (10_state.md R30, R31) -/

/-- The reserved indices name no register and every other index names one (10_state.md R31). -/
theorem regOfIndex_eq_none_iff (r : Byte) :
    regOfIndex r = none ↔ r ∈ [0x07#8, 0x0F#8, 0x4E#8, 0x4F#8] ∨ 0x60 ≤ r.toNat := by
  revert r
  decide

/-- The writable registers have the indices 0x00 to 0x06 and 0x10 to 0x3F (10_state.md R30). -/
theorem regAccess_eq_rw_iff (reg : Reg) :
    regAccess reg = .rw ↔
      (regIndex reg).toNat ≤ 0x06 ∨ (0x10 ≤ (regIndex reg).toNat ∧ (regIndex reg).toNat ≤ 0x3F) := by
  cases reg with
  | hwaddrCfg i => revert i; decide
  | textIn i => revert i; decide
  | frame i => revert i; decide
  | hwaddrOut i => revert i; decide
  | textOut i => revert i; decide
  | _ => decide

/-- A register at an index outside the writable ranges is read-only. -/
theorem regAccess_eq_ro_of_regOfIndex {r : Byte} {reg : Reg} (hreg : regOfIndex r = some reg)
    (hr : ¬ (r.toNat ≤ 0x06 ∨ (0x10 ≤ r.toNat ∧ r.toNat ≤ 0x3F))) : regAccess reg = .ro := by
  obtain ⟨hnone, _⟩ | ⟨reg', hreg', hidx⟩ := regOfIndex_cases r
  · simp [hnone] at hreg
  · obtain rfl : reg' = reg := Option.some.inj (hreg'.symm.trans hreg)
    cases ha : regAccess reg' with
    | ro => rfl
    | rw => exact absurd (hidx ▸ (regAccess_eq_rw_iff reg').mp ha) hr

end IndexSets

section RegisterCommands
/-! ### RD and WR by the index they name (42_register_access.md R110, R111, R113) -/

variable (s : State) (r : Byte) (v : Word32)

/-- RD of a reserved index raises IllegalRegister. -/
theorem exec_rd_of_reserved (h : regOfIndex r = none) :
    exec (.rd r) s = .next (failedWith s 0x03#8 0x04#8) := by
  rw [exec_eq_next, after, State.readCommand, h]
  rfl

/-- WR of a reserved index raises IllegalRegister. -/
theorem exec_wr_of_reserved (h : regOfIndex r = none) :
    exec (.wr r v) s = .next (failedWith s 0x03#8 0x04#8) := by
  rw [exec_eq_next, after, State.writeCommand, h]
  rfl

/-- WR outside the writable indices raises IllegalRegister, whether the index is reserved or read-only
(60_exceptions.md R137). -/
theorem exec_wr_of_not_writable (hr : ¬ (r.toNat ≤ 0x06 ∨ (0x10 ≤ r.toNat ∧ r.toNat ≤ 0x3F))) :
    exec (.wr r v) s = .next (failedWith s 0x03#8 0x04#8) := by
  obtain ⟨_, heq⟩ | ⟨reg, hreg, hrw, _⟩ := s.writeCommand_cases r v
  · rw [exec_eq_next, after, heq]
    rfl
  · simp [regAccess_eq_ro_of_regOfIndex hreg hr] at hrw

/-- WR of the index of a writable register stores into that register and answers `(0x00, 0)`. -/
theorem exec_wr_regIndex {reg : Reg} (hrw : regAccess reg = .rw) :
    exec (.wr (regIndex reg) v) s = .next (answered (s.writeReg v reg) 0#32) := by
  simp only [exec_eq_next, after, State.writeCommand, regOfIndex_regIndex, hrw]
  rfl

/-- The byte that WR stores is bits 7 to 0 of the data word (42_register_access.md R112). -/
theorem trunc8_eq_extractLsb : trunc8 v = v.extractLsb 7 0 :=
  BitVec.setWidth_eq_extractLsb' (by omega)

/-- The word of RD decodes to RD whatever data word comes with it (30_encoding.md R72, R73). -/
theorem decode_rdWord : decode ⟨0x10#8 ++ r, v⟩ = .ok (.rd r) := by
  simp [decode]

end RegisterCommands

/-- Settles O23: each implemented index is the index of the register it answers, and the other indices name no
register. -/
theorem readAnswersEveryRegister : Obligations.ReadAnswersEveryRegister := by
  refine ⟨fun s => ?implemented, fun s r hr => exec_rd_of_reserved s r ((regOfIndex_eq_none_iff r).mpr hr),
    decode_rdWord⟩
  have hrd := exec_rd_regIndex s
  exact ⟨hrd .seqIn, hrd .rssiIn, hrd .bwIn, hrd .sfIn, hrd .crIn, hrd .tlenIn, hrd .freqIn,
    fun i => hrd (.hwaddrCfg i), hrd .status, fun i => hrd (.textIn i), fun i => hrd (.frame i),
    hrd .rssiUpOut, hrd .rssiDnOut, hrd .seqOut, hrd .bwOut, hrd .sfOut, hrd .crOut, hrd .tlenOut,
    hrd .freqOut, fun i => hrd (.hwaddrOut i), fun i => hrd (.textOut i)⟩

/-- Settles O24: each writable index is the index of the register it stores into; in `TEXT_IN` and FRAME the
store reaches one byte. -/
theorem writeStoresTheNamedRegister : Obligations.WriteStoresTheNamedRegister := by
  refine ⟨fun s v => ?writable, exec_wr_of_not_writable, fun r v => decode_encode (.wr r v)⟩
  intro b
  have hb : trunc8 v = b := trunc8_eq_extractLsb v
  have hwr {reg : Reg} (hrw : regAccess reg = .rw) := exec_wr_regIndex s v hrw
  simp only [← hb]
  refine ⟨hwr (reg := .seqIn) rfl, hwr (reg := .rssiIn) rfl, hwr (reg := .bwIn) rfl, hwr (reg := .sfIn) rfl,
    hwr (reg := .crIn) rfl, hwr (reg := .tlenIn) rfl, hwr (reg := .freqIn) rfl,
    fun i => ⟨_, hwr (reg := .textIn i) rfl, fun j => ?text⟩,
    fun i => ⟨_, hwr (reg := .frame i) rfl, fun j => ?frame⟩⟩
  case text => simp [Vector.getElem_set, Fin.ext_iff, @eq_comm _ i.val]
  case frame => simp [memRead1, getElem_memWrite1, Fin.ext_iff]

/-- Settles O25: a reserved index names no register, which fails both commands; each read-only index names a
register that is not writable, which fails WR alone. -/
theorem illegalRegisterCases : Obligations.IllegalRegisterCases := by
  refine ⟨fun s r hr => ?reserved, fun s r v hr => ?readOnly⟩
  case reserved =>
    have hnone : regOfIndex r = none := (regOfIndex_eq_none_iff r).mpr (hr.imp_right And.left)
    exact ⟨exec_rd_of_reserved s r hnone, fun v => exec_wr_of_reserved s r v hnone⟩
  case readOnly =>
    have hro : ¬ (r.toNat ≤ 0x06 ∨ (0x10 ≤ r.toNat ∧ r.toNat ≤ 0x3F)) := by bv_omega
    have hsome : regOfIndex r ≠ none := by
      rw [Ne, regOfIndex_eq_none_iff]
      simp only [List.mem_cons, List.not_mem_nil, or_false]
      bv_omega
    obtain ⟨reg, hreg⟩ := Option.ne_none_iff_exists'.mp hsome
    exact ⟨exec_wr_of_not_writable s r v hro, _, exec_rd_of_regOfIndex s r reg hreg⟩

end Sys2Proof.Machine

/-! The family 43_control.md: NOP does nothing but respond (R120), and CLRERR clears STATUS alone (R121). -/

namespace Sys2Proof.Machine

open Sys2Proof

section ControlWords
/-! ### The words of NOP and CLRERR (30_encoding.md R72, R73, R76) -/

variable (v : Word32)

/-- The word of NOP decodes to NOP whatever data word comes with it. -/
theorem decode_nopWord : decode ⟨0x00#8 ++ 0x00#8, v⟩ = .ok .nop := by
  simp [decode, opField, regField]

/-- The opcode of NOP with any other `reg` is reserved. -/
theorem decode_nopOpcode_of_reg_ne_zero {r : Byte} (hr : r ≠ 0x00#8) :
    decode ⟨0x00#8 ++ r, v⟩ = .error (.registerNotZero 0x00#8 r) := by
  simp only [decode, opField_append, regField_append, if_neg hr]
  rfl

/-- The word of CLRERR decodes to CLRERR whatever data word comes with it. -/
theorem decode_clrerrWord : decode ⟨0x0300#16, v⟩ = .ok .clrerr := by
  simp [decode, opField, regField]

end ControlWords

section ControlCommands
/-! ### The effects of NOP and CLRERR (43_control.md R120, R121) -/

variable (s : State)

theorem exec_nop_eq_answered : exec .nop s = .next (answered s 0#32) := by
  rw [exec_eq_next, after, State.respondOk_eq, answered]

/-- CLRERR as one record update: the sticky bits and the response, and no other field. -/
theorem exec_clrerr_eq :
    exec .clrerr s = .next { s with status := 0x00#8, response := some ⟨0x00#8, 0#32⟩ } := by
  rw [exec_eq_next, after, State.respondOk_eq, State.clearSticky]

end ControlCommands

/-- Settles O14: NOP leaves the state of a bare answer; its word is the one word with its opcode that is not
reserved. -/
theorem nopOnlyResponds : Obligations.NopOnlyResponds := by
  refine ⟨exec_nop_eq_answered, fun r v => ?_⟩
  split_ifs with hr
  · rw [hr, decode_nopWord]
  · exact ⟨_, decode_nopOpcode_of_reg_ne_zero v hr⟩

/-- Settles O15: CLRERR clears the sticky bits and answers, under any data word. -/
theorem clrerrClearsTheStickyBits : Obligations.ClrerrClearsTheStickyBits :=
  ⟨exec_clrerr_eq, decode_clrerrWord⟩

end Sys2Proof.Machine

/-! The family 60_exceptions.md: which requests fail and what error entry leaves (R132, R136, R138), and that
the block always proceeds and always answers (R141). -/

namespace Sys2Proof.Machine

open Sys2Proof

section ReservedWords
/-! ### The reserved words by their two fields (30_encoding.md R76) -/

/-- The fields of a reserved word (30_encoding.md R76). -/
def ReservedFields (op reg : Byte) : Prop :=
  (0x04 ≤ op.toNat ∧ op.toNat ≤ 0x0F) ∨ 0x12 ≤ op.toNat ∨ (op.toNat ≤ 0x03 ∧ reg ≠ 0x00#8)

variable {op : Byte} (reg : Byte) (v : Word32)

/-- An opcode whose commands take no operand is reserved unless `reg` is 0. -/
theorem exists_decode_error_iff_of_op_le_three (hop : op.toNat ≤ 0x03) :
    (∃ why, decode ⟨op ++ reg, v⟩ = .error why) ↔ reg ≠ 0x00#8 := by
  obtain rfl | rfl | rfl | rfl : op = 0x00#8 ∨ op = 0x01#8 ∨ op = 0x02#8 ∨ op = 0x03#8 := by bv_omega
  all_goals
    simp only [decode, opField_append, regField_append]
    by_cases hreg : reg = 0x00#8
    · simp [hreg]
    · simp [hreg]

/-- RD and WR decode for every `reg` (30_encoding.md R75). -/
theorem exists_decode_ok_of_registerCommand (hop : op = 0x10#8 ∨ op = 0x11#8) :
    ∃ i, decode ⟨op ++ reg, v⟩ = .ok i := by
  obtain rfl | rfl := hop
  · exact ⟨.rd reg, by simp [decode]⟩
  · exact ⟨.wr reg v, by simp [decode]⟩

/-- An opcode of no command is reserved whatever `reg` is. -/
theorem decode_of_unassigned_op (hcontrol : 0x03 < op.toNat) (hrd : op ≠ 0x10#8) (hwr : op ≠ 0x11#8) :
    decode ⟨op ++ reg, v⟩ = .error (.opcode op) := by
  have hnop : op ≠ 0x00#8 := by bv_omega
  have hbuild : op ≠ 0x01#8 := by bv_omega
  have hdecode : op ≠ 0x02#8 := by bv_omega
  have hclrerr : op ≠ 0x03#8 := by bv_omega
  simp [decode, hrd, hwr, hnop, hbuild, hdecode, hclrerr]

/-- The reserved words are those with reserved fields: the three ranges of opcodes, one after another. -/
theorem exists_decode_error_iff :
    (∃ why, decode ⟨op ++ reg, v⟩ = .error why) ↔ ReservedFields op reg := by
  unfold ReservedFields
  by_cases hcontrol : op.toNat ≤ 0x03
  · rw [exists_decode_error_iff_of_op_le_three reg v hcontrol]
    have hlow : ¬ 0x04 ≤ op.toNat := by omega
    have hhigh : ¬ 0x12 ≤ op.toNat := by omega
    simp [hcontrol, hlow, hhigh]
  · by_cases hcommand : op = 0x10#8 ∨ op = 0x11#8
    · obtain ⟨i, hi⟩ := exists_decode_ok_of_registerCommand reg v hcommand
      obtain rfl | rfl := hcommand
      · simp [hi]
      · simp [hi]
    · obtain ⟨hrd, hwr⟩ := not_or.mp hcommand
      have hreserved : (0x04 ≤ op.toNat ∧ op.toNat ≤ 0x0F) ∨ 0x12 ≤ op.toNat := by bv_omega
      exact iff_of_true ⟨_, decode_of_unassigned_op reg v (by omega) hrd hwr⟩
        (hreserved.imp_right .inl)

end ReservedWords

section ErrorEntry
/-! ### Error entry (60_exceptions.md R136) -/

/-- The codes of the errors are 1, 2 and 3 (60_exceptions.md R130). -/
theorem CommandError.code_toNat_le (e : CommandError) : e.code.toNat ≤ 3 := by
  cases e <;> decide

/-- Each error sets the STATUS bit that its code stands for (60_exceptions.md R130). -/
theorem CommandError.bitOfCode_code (e : CommandError) : bitOfCode e.code = e.stickyBit := by
  cases e <;> rfl

/-- Error entry is what the statements call a failure with the error's code and the bit of that code. -/
theorem State.raise_eq_failedWith (s : State) (e : CommandError) :
    s.raise e = failedWith s e.code (bitOfCode e.code) := by
  rw [State.raise_eq, CommandError.bitOfCode_code, failedWith]

end ErrorEntry

section Requests
/-! ### What serving one request can do -/

/-- No command touches the host's moves to come (log 1). -/
@[simp] theorem after_inputs (i : Instr) (s : State) : (after i s).inputs = s.inputs := by
  have hkept : after i s = (after i s).withInterface s.inputs (after i s).response :=
    after_withInterface s s.inputs s.response i
  rw [hkept, State.withInterface]

/-- Every command either answers OK or is an error entry and nothing else (60_exceptions.md R136, R138). -/
theorem after_ok_or_raise (i : Instr) (s : State) :
    (∃ d, (after i s).response = some ⟨okCode, d⟩) ∨ ∃ e, after i s = s.raise e := by
  cases i with
  | nop => exact .inl ⟨_, rfl⟩
  | build =>
    obtain ⟨_, hok⟩ | ⟨_, herr⟩ := s.buildCommand_cases params
    · exact .inl ⟨_, congrArg State.response hok⟩
    · exact .inr ⟨_, herr⟩
  | decode => exact .inl ⟨_, rfl⟩
  | clrerr => exact .inl ⟨_, rfl⟩
  | rd r =>
    obtain ⟨_, herr⟩ | ⟨_, _, hok⟩ := s.readCommand_cases params r
    · exact .inr ⟨_, herr⟩
    · exact .inl ⟨_, congrArg State.response hok⟩
  | wr r v =>
    obtain ⟨_, herr⟩ | ⟨_, _, _, hok⟩ := s.writeCommand_cases r v
    · exact .inr ⟨_, herr⟩
    · exact .inl ⟨_, congrArg State.response hok⟩

variable {s : State} {q : Request} {rest : List HostInput}

/-- A request with a command's word is served by the command. -/
theorem step_of_decode_ok {i : Instr} (hin : s.inputs = .request q :: rest) (hq : decode q = .ok i) :
    step s = .next (after i { s with inputs := rest }) := by
  simp [step, State.nextInput_cons s _ rest hin, hq, exec_eq_next]

/-- A request with a reserved word is the error entry of IllegalCommand (60_exceptions.md R132). -/
theorem step_of_decode_error {why : ReservedWord} (hin : s.inputs = .request q :: rest)
    (hq : decode q = .error why) :
    step s = .next (({ s with inputs := rest } : State).raise .illegalCommand) := by
  simp [step, State.nextInput_cons s _ rest hin, hq]

/-- Every request is taken and answered: OK, or by an error entry that does nothing else. -/
theorem step_of_request (hin : s.inputs = .request q :: rest) :
    ∃ t, step s = .next t ∧ t.inputs = rest ∧
      ((∃ d, t.response = some ⟨okCode, d⟩) ∨ ∃ e, t = ({ s with inputs := rest } : State).raise e) := by
  cases hq : decode q with
  | ok i => exact ⟨_, step_of_decode_ok hin hq, after_inputs i _, after_ok_or_raise i _⟩
  | error why => exact ⟨_, step_of_decode_error hin hq, rfl, .inr ⟨_, rfl⟩⟩

end Requests

/-- Every run answers a next state, since every step of it does (60_exceptions.md R141). -/
theorem run_answers (k : Nat) (s : State) : ∃ t, core.run k s = .next t := by
  induction k generalizing s with
  | zero => exact ⟨s, rfl⟩
  | succ k ih =>
    obtain ⟨u, hu⟩ := step_answers s
    rw [run_succ k s u hu]
    exact ih u

/-- Settles O4: the words that do not decode are those with reserved fields, and a word that does not decode
is the error entry of IllegalCommand. -/
theorem reservedWordIsIllegalCommand : Obligations.ReservedWordIsIllegalCommand := by
  refine fun op reg v => ⟨exists_decode_error_iff reg v, fun hfields s rest hin => ?_⟩
  obtain ⟨why, hwhy⟩ := (exists_decode_error_iff reg v).mpr hfields
  rw [step_of_decode_error hin hwhy, State.raise_eq_failedWith]
  rfl

/-- Settles O11: every run proceeds because every step does, and a request is answered OK or by an error
entry, whose `rdata` is 0. -/
theorem blockNeverStops : Obligations.BlockNeverStops := by
  refine ⟨fun s ins k => run_answers k (s.issue ins), fun s q rest hin => ?_⟩
  obtain ⟨t, ht, hrest, ⟨d, hok⟩ | ⟨e, rfl⟩⟩ := step_of_request hin
  · exact ⟨t, _, ht, hrest, hok, by simp [okCode], fun hcode => absurd rfl hcode⟩
  · exact ⟨_, _, ht, hrest, State.raise_response _ e, by cases e <;> simp [CommandError.code], fun _ => rfl⟩

/-- Settles O40: a request that is not answered OK is an error entry. -/
theorem failingRequestChangesOnlyItsBit : Obligations.FailingRequestChangesOnlyItsBit := by
  intro s t q rest code d hin hstep hresponse hcode
  obtain ⟨u, hu, -, hserved⟩ := step_of_request hin
  obtain rfl : u = t := by simpa [hu] using hstep
  obtain ⟨d', hok⟩ | ⟨e, rfl⟩ := hserved
  · obtain ⟨rfl, -⟩ : okCode = code ∧ d' = d := by simpa [hok] using hresponse
    exact absurd rfl hcode
  · obtain ⟨rfl, -⟩ : e.code = code ∧ 0#32 = d := by simpa using hresponse
    exact ⟨e.code_toNat_le, State.raise_eq_failedWith _ e⟩

end Sys2Proof.Machine

/-! Encoding and layout: the decoder reads back what the encoder writes (30_encoding.md R73, R75), the register
map and the frame layout are bijections (10_state.md R30, R31, 30_encoding.md R69), and a write reads back
(10_state.md R33). -/

namespace Sys2Proof

section DataWord
/-! ### The data word (30_encoding.md R73, R82) -/

variable {w : Word16} (v v' : Word32)

/-- A word with the opcode of WR is a WR of whatever data word comes with it. -/
theorem decode_of_wrOpcode (h : opField w = 0x11#8) : decode ⟨w, v⟩ = .ok (.wr (regField w) v) := by
  simp [decode, h]

/-- Under any other opcode the data word is not looked at. -/
theorem decode_eq_of_not_wrOpcode (h : opField w ≠ 0x11#8) : decode ⟨w, v⟩ = decode ⟨w, v'⟩ := by
  simp only [decode, h, if_false]

/-- A word that decodes to a WR has its opcode. -/
theorem opField_of_decode_wr {v : Word32} {r : Byte} {u : Word32} (h : decode ⟨w, v⟩ = .ok (.wr r u)) :
    opField w = 0x11#8 := by
  obtain rfl : 0x11#8 ++ r = w := encode_cmd_of_decode h
  exact opField_append ..

end DataWord

/-- Settles O3: the opcode of WR takes the data word in, and no other opcode looks at it. -/
theorem dataWordOnlyReachesWrite : Obligations.DataWordOnlyReachesWrite := by
  intro w v v'
  by_cases hop : opField w = 0x11#8
  · rw [decode_of_wrOpcode v hop]
    exact ⟨rfl, decode_of_wrOpcode v' hop⟩
  · have hsame := decode_eq_of_not_wrOpcode v' v hop
    split
    next hwr => exact absurd (opField_of_decode_wr hwr) hop
    next => exact hsame

/-- Settles O5, by evaluation. -/
theorem workedWordsDecode : Obligations.WorkedWordsDecode :=
  ⟨rfl, rfl, rfl, rfl, rfl, rfl⟩

end Sys2Proof

namespace Sys2Proof.Machine

open Sys2Proof

/-- Settles O1: every command is well-formed, and the decoder reads back every word of the encoder. -/
theorem decodeInvertsEncode : Obligations.DecodeInvertsEncode := fun i _ => decode_encode i

/-- Settles O29: each field lies at its own offsets, and the fields leave no byte out. -/
theorem packAndUnpackAreInverse : Obligations.PackAndUnpackAreInverse := ⟨unpack_pack, pack_unpack⟩

/-! ### The length of a text and the register map (41_decode.md R103, 10_state.md R30) -/

/-- A text field without 0x00 is text to its end (41_decode.md R103). -/
theorem textLen_eq_sixteen (tx : Vector Byte 16) (h : ∀ j : Fin 16, tx[j] ≠ 0x00#8) : textLen tx = 16 := by
  refine (textLen_le tx).eq_of_not_lt fun hlt => ?_
  obtain ⟨hzero, _⟩ := (textLen_eq_iff tx _ hlt).mp rfl
  exact h ⟨_, hlt⟩ hzero

/-- Settles O22: the length is the index of the first 0x00 when it is below 16, and 16 is the only other
length. -/
theorem textLengthIsTheFirstZero : Obligations.TextLengthIsTheFirstZero := fun tx =>
  ⟨fun i hfirst hzero => (textLen_eq_iff tx i i.isLt).mpr
    ⟨hzero, fun j hj => hfirst ⟨j, hj.trans i.isLt⟩ hj⟩, textLen_eq_sixteen tx⟩

/-- A register at an index has that index. -/
theorem regIndex_of_regOfIndex {r : Byte} {reg : Reg} (h : regOfIndex r = some reg) : regIndex reg = r := by
  obtain ⟨hnone, _⟩ | ⟨reg', hreg', hidx⟩ := regOfIndex_cases r
  · simp [hnone] at h
  · obtain rfl : reg' = reg := Option.some.inj (hreg'.symm.trans h)
    exact hidx

/-- Settles O27: the index of every register, the register at every index, and the reserved indices. -/
theorem registerMapIsABijection : Obligations.RegisterMapIsABijection :=
  ⟨regOfIndex_regIndex, fun _ _ => regIndex_of_regOfIndex, regOfIndex_eq_none_iff⟩

section WriteThenRead
/-! ### RD after WR (10_state.md R33, 20_memory.md R49) -/

variable (p : Params) (s : State) (v : Word32)

/-- What a register reads as after `v` has been written to it: all of `v`, or its low 8 bits
(42_register_access.md R112). -/
def storedValue (reg : Reg) (v : Word32) : Word32 := if regWidth reg = 32 then v else zext32 (trunc8 v)

/-- A write to a writable register is read back from it, and every other register reads as before. -/
theorem State.readReg_writeReg {reg : Reg} (hrw : regAccess reg = .rw) (reg' : Reg) :
    (s.writeReg v reg).readReg p reg' = if reg' = reg then storedValue reg v else s.readReg p reg' := by
  cases reg with
  | textIn i =>
    cases reg' with
    | textIn j =>
      simp only [State.writeReg, State.readReg, Fin.getElem_fin, Vector.getElem_set, Reg.textIn.injEq,
        Fin.ext_iff, eq_comm (a := i.val)]
      split <;> rfl
    | _ => rfl
  | frame i =>
    cases reg' with
    | frame j =>
      simp only [State.writeReg, State.readReg, Fin.getElem_fin, getElem_memWrite1, Reg.frame.injEq,
        Fin.ext_iff]
      split <;> rfl
    | _ => rfl
  | seqIn | rssiIn | bwIn | sfIn | crIn | tlenIn | freqIn => cases reg' <;> rfl
  | _ => simp [regAccess] at hrw

/-- The low 8 bits of a data word. -/
theorem zext32_trunc8 : zext32 (trunc8 v) = v &&& 0xFF#32 := by
  apply BitVec.eq_of_toNat_eq
  have hmask : v.toNat &&& 255 = v.toNat % 256 := Nat.and_two_pow_sub_one_eq_mod v.toNat 8
  simp only [zext32, trunc8, BitVec.toNat_and, BitVec.toNat_setWidth, BitVec.toNat_ofNat,
    Nat.reducePow, Nat.reduceMod, hmask]
  omega

/-- `FREQ_IN`, at index 0x06, is the one writable register of 32 bits. -/
theorem storedValue_eq {reg : Reg} (hrw : regAccess reg = .rw) :
    storedValue reg v = if regIndex reg = 0x06#8 then v else v &&& 0xFF#32 := by
  have hwidth : regWidth reg = 32 ↔ regIndex reg = 0x06#8 := by
    cases reg with
    | textIn i => revert i; decide
    | frame i => revert i; decide
    | seqIn | rssiIn | bwIn | sfIn | crIn | tlenIn | freqIn => decide
    | _ => simp [regAccess] at hrw
  rw [storedValue, zext32_trunc8]
  simp only [hwidth]

/-- RD of the index of a register answers what the register reads as. -/
theorem State.readCommand_regIndex (reg : Reg) :
    s.readCommand p (regIndex reg) = s.respondOk (s.readReg p reg) := by
  rw [State.readCommand, regOfIndex_regIndex]

/-- WR of the index of a writable register stores into that register. -/
theorem State.writeCommand_regIndex {reg : Reg} (hrw : regAccess reg = .rw) :
    s.writeCommand (regIndex reg) v = (s.writeReg v reg).respondOk 0#32 := by
  simp only [State.writeCommand, regOfIndex_regIndex, hrw]

/-- RD answers alike in two states in which the register at the index reads alike. -/
theorem State.readCommand_response_congr {t : State} {r : Byte}
    (h : ∀ reg, regIndex reg = r → s.readReg p reg = t.readReg p reg) :
    (s.readCommand p r).response = (t.readCommand p r).response := by
  cases hr : regOfIndex r with
  | none => simp [State.readCommand, hr]
  | some reg => simp [State.readCommand, hr, h reg (regIndex_of_regOfIndex hr)]

/-- A writable index is the index of a writable register. -/
theorem exists_rw_of_writable {r : Byte} (h : r.toNat ≤ 0x06 ∨ (0x10 ≤ r.toNat ∧ r.toNat ≤ 0x3F)) :
    ∃ reg, regIndex reg = r ∧ regAccess reg = .rw := by
  obtain ⟨_, hreserved⟩ | ⟨reg, _, rfl⟩ := regOfIndex_cases r
  · simp only [List.mem_cons, List.not_mem_nil, or_false] at hreserved
    bv_omega
  · exact ⟨reg, rfl, (regAccess_eq_rw_iff reg).mpr h⟩

end WriteThenRead

/-- Settles O26: the register at the index written reads as the value stored, and a register at another index
as before. -/
theorem writeThenReadEachIndex : Obligations.WriteThenReadEachIndex := by
  intro p s r v hr
  obtain ⟨reg, rfl, hrw⟩ := exists_rw_of_writable hr
  rw [s.writeCommand_regIndex v hrw]
  refine ⟨?same, fun r' hne => State.readCommand_response_congr p _ fun reg' hreg' => ?other⟩
  case same =>
    rw [State.readCommand_regIndex, State.respondOk_response, State.respondOk_readReg,
      s.readReg_writeReg p v hrw, if_pos rfl, storedValue_eq v hrw]
    rfl
  case other =>
    have hne' : reg' ≠ reg := fun heq => hne (hreg' ▸ congrArg regIndex heq)
    rw [State.respondOk_readReg, s.readReg_writeReg p v hrw, if_neg hne']

section BuildAfterReset
/-! ### BUILD directly after reset (70_reset_and_hazards.md R151) -/

/-- The frame packed from the operands after reset: 0x00 but for the address field. -/
theorem getElem_pack_buildRecord_reset (p : Params) (i : Nat) (hi : i < 32) :
    (pack p.byteOrder (State.reset.buildRecord p))[i] =
      if h : 2 ≤ i ∧ i ≤ 7 then p.hwAddr[i - 2] else 0x00#8 := by
  have htext (j : Nat) (hj : j < 16) : (State.reset.buildRecord p).tx[j] = 0x00#8 :=
    State.getElem_buildRecord_tx p State.reset j hj
  have hfreq : bytes4 p.byteOrder (State.reset.buildRecord p).freq = Vector.replicate 4 0x00#8 := by
    change bytes4 p.byteOrder 0#32 = _
    cases p.byteOrder <;> decide
  by_cases haddr : 2 ≤ i ∧ i ≤ 7
  · rw [dif_pos haddr, getElem_pack, dif_pos (by omega), dif_pos (by omega), dif_pos (by omega),
      dif_neg (by omega)]
    rfl
  · rw [dif_neg haddr, getElem_pack]
    split_ifs with h16 h12 h8 h2
    · interval_cases i <;> rfl
    · omega
    · simp only [hfreq, Vector.getElem_replicate]
    · interval_cases i <;> rfl
    · exact htext _ _

end BuildAfterReset

/-- Settles O10: the length 0 takes the branch that packs the operands, which are all 0. -/
theorem buildAfterResetGivesTheAddressFrame : Obligations.BuildAfterResetGivesTheAddressFrame := by
  have hle : State.reset.tlenIn.toNat ≤ 15 := Nat.zero_le _
  refine ⟨_, exec_eq_next .build _, State.buildCommand_response_of_le params _ hle, fun i => ?_⟩
  have hframe := State.buildCommand_frame_of_le params _ hle
  simp only [after, hframe]
  exact getElem_pack_buildRecord_reset params i i.isLt

/-- Settles O44, by evaluation. -/
theorem listingLinesAssemble : Obligations.ListingLinesAssemble :=
  ⟨by decide, by decide, by decide, by decide, by decide, by decide⟩

section ExampleFrequencies
/-! ### The example frequencies (30_encoding.md R67) -/

/-- A pattern whose exponent is neither 0 nor 255 is a normal number, read from its three fields. -/
theorem binary32Read_eq_normal {f : Word32} {negative : Bool} {e m : Nat} (hsign : binary32Sign f = negative)
    (hexp : binary32Exponent f = e) (hfrac : binary32Fraction f = m) (hzero : e ≠ 0) (htop : e ≠ 255) :
    binary32Read f = .normal (signFactor negative * 2 ^ ((e : ℤ) - 127) * (1 + m / 2 ^ 23)) := by
  simp only [binary32Read, hsign, hexp, hfrac, if_neg hzero, if_neg htop]

/-- 915 is `2^9 * (1 + 0x64C000 / 2^23)`. -/
theorem binary32Read_915 : binary32Read 0x4464C000#32 = .normal 915 := by
  rw [binary32Read_eq_normal (negative := false) (e := 136) (m := 0x64C000) rfl rfl rfl (by omega) (by omega)]
  norm_num [signFactor]

/-- 433 is `2^8 * (1 + 0x588000 / 2^23)`. -/
theorem binary32Read_433 : binary32Read 0x43D88000#32 = .normal 433 := by
  rw [binary32Read_eq_normal (negative := false) (e := 135) (m := 0x588000) rfl rfl rfl (by omega) (by omega)]
  norm_num [signFactor]

end ExampleFrequencies

/-- Settles O31: the two normal numbers from their fields, the zeros and the roundings by evaluation. -/
theorem exampleFrequenciesReadAsStated : Obligations.ExampleFrequenciesReadAsStated :=
  ⟨binary32Read_915, binary32Read_433, rfl, rfl, by decide, by decide⟩

end Sys2Proof.Machine

/-! What one move can do: each group of registers has its writers (10_state.md R17, R29), sticky bits accumulate
(60_exceptions.md R139), and the invariant is kept. -/

namespace Sys2Proof.Machine

open Sys2Proof

section RegisterGroups
/-! ### The groups of registers and their writers (10_state.md R17, R29) -/

variable (s : State)

/-- The 23 operand registers as one value (10_state.md R10). -/
def State.operandView : Byte × Byte × Byte × Byte × Byte × Byte × Word32 × Vector Byte 16 :=
  (s.seqIn, s.rssiIn, s.bwIn, s.sfIn, s.crIn, s.tlenIn, s.freqIn, s.textIn)

/-- The 30 result registers as one value (10_state.md R18). -/
def State.resultView : FieldRecord × Byte := (s.resultRecord, s.tlenOut)

theorem sameOperands_iff (t : State) : SameOperands s t ↔ s.operandView = t.operandView := by
  simp only [SameOperands, State.operandView, Prod.mk.injEq]

theorem sameResults_iff (t : State) : SameResults s t ↔ s.resultView = t.resultView := by
  simp only [SameResults, State.resultView, State.resultRecord, Prod.mk.injEq, FieldRecord.mk.injEq]
  tauto

/-- WR reaches operands and FRAME alone. -/
@[simp] theorem State.writeReg_resultView (v : Word32) (reg : Reg) :
    (s.writeReg v reg).resultView = s.resultView := by
  cases reg <;> rfl

@[simp] theorem State.writeReg_status (v : Word32) (reg : Reg) : (s.writeReg v reg).status = s.status := by
  cases reg <;> rfl

/-- A WR outside the FRAME indices leaves FRAME alone. -/
theorem State.writeReg_frame {v : Word32} {reg : Reg} (h : writesFrame (.wr (regIndex reg) v) = false) :
    (s.writeReg v reg).frame = s.frame := by
  cases reg with
  | frame i =>
    have hindex : ∀ i, 0x20 ≤ (regIndex (.frame i)).toNat ∧ (regIndex (.frame i)).toNat ≤ 0x3F := by
      decide
    simp [writesFrame, hindex i] at h
  | _ => rfl

/-- A WR outside the operand indices leaves the operands alone. -/
theorem State.writeReg_operandView {v : Word32} {reg : Reg}
    (h : writesOperands (.wr (regIndex reg) v) = false) :
    (s.writeReg v reg).operandView = s.operandView := by
  cases reg with
  | textIn i =>
    have hindex : ∀ i, 0x10 ≤ (regIndex (.textIn i)).toNat ∧ (regIndex (.textIn i)).toNat ≤ 0x1F := by
      decide
    simp [writesOperands, hindex i] at h
  | seqIn | rssiIn | bwIn | sfIn | crIn | tlenIn | freqIn => simp [writesOperands, regIndex] at h
  | _ => rfl

end RegisterGroups

section CommandEffects
/-! ### What a command can do (60_exceptions.md R136, R138) -/

variable {s t : State} {i : Instr}

/-- The ways in which a command takes `s` to another state: error entry, or its own effect and the answer OK. -/
inductive CommandEffect (s : State) : Instr → State → Prop where
  | raise (i : Instr) (e : CommandError) : CommandEffect s i (s.raise e)
  | nop : CommandEffect s .nop (s.respondOk 0#32)
  | build (f : Frame) (hf : f = s.buildFrame params) :
    CommandEffect s .build (({ s with frame := f }).respondOk 0#32)
  | decode : CommandEffect s .decode ((s.decodeResults params).respondOk 0#32)
  | clrerr : CommandEffect s .clrerr (s.clearSticky.respondOk 0#32)
  | rd (reg : Reg) : CommandEffect s (.rd (regIndex reg)) (s.respondOk (s.readReg params reg))
  | wr (reg : Reg) (v : Word32) : CommandEffect s (.wr (regIndex reg) v) ((s.writeReg v reg).respondOk 0#32)

/-- Every command does one of these. -/
theorem commandEffect_after (i : Instr) (s : State) : CommandEffect s i (after i s) := by
  cases i with
  | nop => exact .nop
  | decode => exact .decode
  | clrerr => exact .clrerr
  | build =>
    obtain ⟨_, heq⟩ | ⟨_, heq⟩ := s.buildCommand_cases params
    · rw [after, heq]; exact .build _ rfl
    · rw [after, heq]; exact .raise ..
  | rd r =>
    obtain ⟨_, heq⟩ | ⟨reg, hreg, heq⟩ := s.readCommand_cases params r
    · rw [after, heq]; exact .raise ..
    · obtain rfl := regIndex_of_regOfIndex hreg
      rw [after, heq]; exact .rd reg
  | wr r v =>
    obtain ⟨_, heq⟩ | ⟨reg, hreg, _, heq⟩ := s.writeCommand_cases r v
    · rw [after, heq]; exact .raise ..
    · obtain rfl := regIndex_of_regOfIndex hreg
      rw [after, heq]; exact .wr reg v

/-- An operand register changes only by a WR to an operand index (10_state.md R17). -/
theorem CommandEffect.operandView_eq (h : CommandEffect s i t) (hkeep : writesOperands i = false) :
    t.operandView = s.operandView := by
  cases h with
  | wr reg v => exact s.writeReg_operandView hkeep
  | _ => rfl

/-- FRAME changes only by BUILD or a WR to a FRAME index (20_memory.md R45). -/
theorem CommandEffect.frame_eq (h : CommandEffect s i t) (hkeep : writesFrame i = false) :
    t.frame = s.frame := by
  cases h with
  | build => cases hkeep
  | wr reg v => exact s.writeReg_frame hkeep
  | _ => rfl

/-- A result register changes only by DECODE (41_decode.md R107). -/
theorem CommandEffect.resultView_eq (h : CommandEffect s i t) (hkeep : writesResults i = false) :
    t.resultView = s.resultView := by
  cases h with
  | decode => cases hkeep
  | wr reg v => exact s.writeReg_resultView v reg
  | _ => rfl

/-- A command other than CLRERR adds to STATUS the bit of the code it answers, and OK has no bit (10_state.md
R23). -/
theorem CommandEffect.response_status (h : CommandEffect s i t) (hne : i ≠ .clrerr) :
    ∃ r, t.response = some r ∧ t.status = s.status ||| bitOfCode r.status := by
  have hok : s.status ||| bitOfCode okCode = s.status := BitVec.or_zero
  cases h with
  | raise i e => exact ⟨_, rfl, by simp [CommandError.bitOfCode_code]⟩
  | clrerr => exact absurd rfl hne
  | wr reg v => exact ⟨_, rfl, (s.writeReg_status v reg).trans hok.symm⟩
  | _ => exact ⟨_, rfl, hok.symm⟩

/-- A command that answers OK and is not CLRERR leaves STATUS alone. -/
theorem CommandEffect.status_eq_of_ok (h : CommandEffect s i t) (hne : i ≠ .clrerr) {d : Word32}
    (hresp : t.response = some ⟨0x00#8, d⟩) : t.status = s.status := by
  obtain ⟨r, hr, hstatus⟩ := h.response_status hne
  obtain rfl : r = ⟨0x00#8, d⟩ := Option.some.inj (hr.symm.trans hresp)
  exact hstatus.trans BitVec.or_zero

end CommandEffects

/-- Settles O39: each group changes only by its writers, command by command. -/
theorem eachGroupHasItsWriters : Obligations.EachGroupHasItsWriters := by
  intro i s
  have heffect := commandEffect_after i s
  exact ⟨after i s, exec_eq_next i s, fun h => (sameOperands_iff ..).mpr (heffect.operandView_eq h),
    heffect.frame_eq, fun h => (sameResults_iff ..).mpr (heffect.resultView_eq h),
    fun ⟨_, hresp⟩ hne => heffect.status_eq_of_ok hne hresp, after_inputs i s⟩

/-- Settles O41: CLRERR never fails, every other command adds the bit of its answer, and a reserved word
raises IllegalCommand. -/
theorem stickyBitsAccumulateUntilClrerr : Obligations.StickyBitsAccumulateUntilClrerr := by
  intro s q rest hin
  cases hq : decode q with
  | ok i =>
    simp only [Except.ok.injEq]
    by_cases hclr : i = .clrerr
    · subst hclr
      exact ⟨_, _, step_of_decode_ok hin hq, rfl, by rw [if_pos rfl]; rfl⟩
    · obtain ⟨r, hr, hstatus⟩ := (commandEffect_after i { s with inputs := rest }).response_status hclr
      exact ⟨_, r, step_of_decode_ok hin hq, hr, by rwa [if_neg hclr]⟩
  | error why =>
    refine ⟨_, _, step_of_decode_error hin hq, State.raise_response _ _, ?_⟩
    simp [CommandError.bitOfCode_code]

section Invariant
/-! ### The invariant (10_state.md R23, 41_decode.md R103, 30_encoding.md R74) -/

variable {s t : State}

/-- The part of the invariant that speaks of registers: it does not look at the response. -/
def State.RegistersInv (s : State) : Prop := s.ReservedBitsZero ∧ s.LengthMatchesText

/-- The bit of an error is one of the bits 2:0 (10_state.md R23). -/
theorem CommandError.stickyBit_and_reserved (e : CommandError) : e.stickyBit &&& 0xF8#8 = 0x00#8 := by
  cases e <;> rfl

/-- An answer OK is legal in every state. -/
theorem State.RegistersInv.respondOk (h : s.RegistersInv) (d : Word32) : (s.respondOk d).Inv :=
  ⟨h.1, h.2, rfl⟩

/-- Error entry sets a bit that exists, and the bit of the code it answers. -/
theorem State.RegistersInv.raise (h : s.RegistersInv) (e : CommandError) : (s.raise e).Inv := by
  obtain ⟨hreserved, hlength⟩ := h
  refine ⟨?bits, hlength, ?legal⟩
  case bits =>
    change (s.status ||| e.stickyBit) &&& 0xF8#8 = 0x00#8
    rw [BitVec.and_or_distrib_right, hreserved, e.stickyBit_and_reserved]
    rfl
  case legal =>
    have hset : (s.status ||| e.stickyBit) &&& e.stickyBit = e.stickyBit := by
      ext i
      simp +contextual
    simp [State.ResponseIsLegal, e.bitOfCode_code, e.code_toNat_le, hset]

theorem State.RegistersInv.writeReg (h : s.RegistersInv) (v : Word32) (reg : Reg) :
    (s.writeReg v reg).RegistersInv := by
  cases reg <;> exact h

/-- Every command keeps the invariant. -/
theorem CommandEffect.inv {i : Instr} (h : CommandEffect s i t) (hs : s.RegistersInv) : t.Inv := by
  cases h with
  | raise i e => exact hs.raise e
  | decode => exact State.RegistersInv.respondOk (s := s.decodeResults params) ⟨hs.1, rfl⟩ _
  | clrerr => exact State.RegistersInv.respondOk (s := s.clearSticky) ⟨BitVec.zero_and, hs.2⟩ _
  | build f hf => exact State.RegistersInv.respondOk (s := { s with frame := f }) hs _
  | wr reg v => exact (hs.writeReg v reg).respondOk _
  | nop | rd reg => exact hs.respondOk _

end Invariant

/-- The invariant contains its part about registers. -/
theorem State.Inv.registersInv {s : State} (h : s.Inv) : s.RegistersInv := ⟨h.1, h.2.1⟩

/-- Settles O12: every register is 0, an all-zero text has length 0, and there is no response yet. -/
theorem invariantHoldsAtReset : Obligations.InvariantHoldsAtReset :=
  ⟨rfl, rfl, rfl⟩

/-- Settles O13: waiting changes nothing, the reset event gives a state that meets the invariant, and a request
is a command or an error entry. -/
theorem everyStepKeepsTheInvariant : Obligations.EveryStepKeepsTheInvariant := by
  intro s t hs hstep
  have hregs := State.Inv.registersInv hs
  obtain ⟨_, heq⟩ | ⟨rest, _, heq⟩ | ⟨_, rest, i, _, _, heq⟩ | ⟨_, rest, _, _, _, heq⟩ := step_cases s
  · obtain rfl : s = t := by simpa [heq] using hstep
    exact hs
  · obtain rfl : ({ s with inputs := rest } : State).resetEvent = t := by simpa [heq] using hstep
    exact invariantHoldsAtReset
  · obtain rfl : after i { s with inputs := rest } = t := by simpa [heq, exec_eq_next] using hstep
    exact (commandEffect_after i _).inv hregs
  · obtain rfl : ({ s with inputs := rest } : State).raise .illegalCommand = t := by
      simpa [heq] using hstep
    exact State.RegistersInv.raise (s := { s with inputs := rest }) hregs _

section OneMove
/-! ### One move of the host -/

/-- Settles O6: every command answers a next state, the one that the step leaves. -/
theorem stepRunsDecodedCommand : Obligations.StepRunsDecodedCommand := fun _ _ i _ hin hq =>
  (step_of_decode_ok hin hq).trans (exec_eq_next i _).symm

/-- A reset event at the head of the queue resets the block (70_reset_and_hazards.md R150). -/
theorem step_of_reset {s : State} {rest : List HostInput} (hin : s.inputs = .reset :: rest) :
    step s = .next ({ s with inputs := rest } : State).resetEvent := by
  rw [step, State.nextInput_cons s _ rest hin]

/-- Settles O7: the queue gives no next move. -/
theorem idleBlockWaits : Obligations.IdleBlockWaits := by
  intro s hin
  rw [step, State.nextInput_nil s hin]

/-- Settles O9: the reset event at the head of the queue. -/
theorem resetEventClearsTheBlock : Obligations.ResetEventClearsTheBlock := fun _ _ hin =>
  step_of_reset hin

end OneMove

end Sys2Proof.Machine

/-! Lists of moves served: what clean moves leave alone (70_reset_and_hazards.md R160, R161), a frame loaded and
decoded (R165), and the beacon attempts of the host (R156, R157, 40_build.md R90). -/

namespace Sys2Proof.Machine

open Sys2Proof

section ServedMoves
/-! ### The state that a list of moves leaves -/

/-- The state that one move of the host leaves. -/
def afterMove (s : State) : HostInput → State
  | .reset => s.resetEvent
  | .request q =>
    match decode q with
    | .ok i => after i s
    | .error _ => s.raise .illegalCommand

/-- The state that a list of moves leaves, the first move first. -/
def afterMoves (s : State) (ins : List HostInput) : State := ins.foldl afterMove s

/-- The state that a list of commands leaves, the first command first. -/
def afterAll (s : State) (cs : List Instr) : State := cs.foldl (fun t c => after c t) s

theorem afterMove_of_decode_ok (s : State) {q : Request} {i : Instr} (h : decode q = .ok i) :
    afterMove s (.request q) = after i s := by
  simp only [afterMove, h]

theorem afterMove_of_decode_error (s : State) {q : Request} {why : ReservedWord} (h : decode q = .error why) :
    afterMove s (.request q) = s.raise .illegalCommand := by
  simp only [afterMove, h]

/-- A command executed before further moves leaves those moves. -/
theorem after_issue (i : Instr) (s : State) (ins : List HostInput) :
    after i (s.issue ins) = (after i s).issue ins := by
  calc after i (s.issue ins)
      = (after i s).withInterface (ins ++ s.inputs) (after i s).response := after_withInterface s _ _ i
    _ = (after i s).issue ins := by rw [State.issue, after_inputs, State.withInterface]

/-- The move at the head of the queue is served before the moves behind it. -/
theorem step_issue_cons (m : HostInput) (ins : List HostInput) (s : State) :
    step (s.issue (m :: ins)) = .next ((afterMove s m).issue ins) := by
  have hin : (s.issue (m :: ins)).inputs = m :: (ins ++ s.inputs) := rfl
  cases m with
  | reset => exact step_of_reset hin
  | request q =>
    cases hq : decode q with
    | ok i =>
      rw [step_of_decode_ok hin hq, afterMove_of_decode_ok s hq, ← after_issue]
      rfl
    | error why =>
      rw [step_of_decode_error hin hq, afterMove_of_decode_error s hq]
      rfl

/-- Serving a list of moves leaves what the moves leave one after another. -/
theorem serve_eq_afterMoves (ins : List HostInput) (s : State) : serve ins s = .next (afterMoves s ins) := by
  induction ins generalizing s with
  | nil => rfl
  | cons m ins ih => exact (run_succ ins.length _ _ (step_issue_cons m ins s)).trans (ih (afterMove s m))

/-- The requests of commands execute the commands. -/
theorem afterMoves_requestsOf (s : State) (cs : List Instr) : afterMoves s (requestsOf cs) = afterAll s cs := by
  have hmove (t : State) (c : Instr) : afterMove t (.request (encode c)) = after c t :=
    afterMove_of_decode_ok t (decode_encode c)
  simp only [afterMoves, requestsOf, List.foldl_map, hmove, afterAll]

theorem afterMoves_append (s : State) (ins ins' : List HostInput) :
    afterMoves s (ins ++ ins') = afterMoves (afterMoves s ins) ins' := List.foldl_append

theorem afterAll_append (s : State) (cs cs' : List Instr) :
    afterAll s (cs ++ cs') = afterAll (afterAll s cs) cs' := List.foldl_append

/-- What each of some moves leaves alone, all of them together leave alone. -/
theorem afterMoves_keeps {α : Type} (view : State → α) (ins : List HostInput)
    (hkeep : ∀ m ∈ ins, ∀ s, view (afterMove s m) = view s) (s : State) :
    view (afterMoves s ins) = view s := by
  induction ins generalizing s with
  | nil => rfl
  | cons m ins ih =>
    obtain ⟨hm, hins⟩ := List.forall_mem_cons.mp hkeep
    exact (ih hins (afterMove s m)).trans (hm s)

@[simp] theorem afterMove_inputs (s : State) (m : HostInput) : (afterMove s m).inputs = s.inputs := by
  cases m with
  | reset => rfl
  | request q =>
    cases hq : decode q with
    | ok i => rw [afterMove_of_decode_ok s hq, after_inputs]
    | error why => rw [afterMove_of_decode_error s hq, State.raise_inputs]

@[simp] theorem afterMoves_inputs (s : State) (ins : List HostInput) :
    (afterMoves s ins).inputs = s.inputs :=
  afterMoves_keeps State.inputs ins (fun m _ s => afterMove_inputs s m) s

/-- A component that error entry and every command outside `writes` leave alone is left alone by moves without
reset and without those commands. -/
theorem afterMoves_keeps_of_not_writes {α : Type} (view : State → α) {writes : Instr → Bool}
    (hraise : ∀ s : State, view (s.raise .illegalCommand) = view s)
    (hafter : ∀ i s, writes i = false → view (after i s) = view s) {ins : List HostInput}
    (hins : (ins.all fun m => !movesWrite writes m) = true) (s : State) :
    view (afterMoves s ins) = view s := by
  refine afterMoves_keeps view ins (fun m hm s => ?_) s
  have hclean : movesWrite writes m = false := by simpa using List.all_eq_true.mp hins m hm
  cases m with
  | reset => simp [movesWrite] at hclean
  | request q =>
    cases hq : decode q with
    | ok i =>
      rw [afterMove_of_decode_ok s hq]
      exact hafter i s (by simpa [movesWrite, hq] using hclean)
    | error why =>
      rw [afterMove_of_decode_error s hq, hraise]

theorem afterMoves_frame {ins : List HostInput} (h : cleanFetch ins = true) (s : State) :
    (afterMoves s ins).frame = s.frame :=
  afterMoves_keeps_of_not_writes State.frame (fun _ => rfl) (fun i s => (commandEffect_after i s).frame_eq) h s

theorem afterMoves_resultView {ins : List HostInput} (h : keepsResults ins = true) (s : State) :
    (afterMoves s ins).resultView = s.resultView :=
  afterMoves_keeps_of_not_writes State.resultView (fun _ => rfl)
    (fun i s => (commandEffect_after i s).resultView_eq) h s

theorem afterMoves_operandView {ins : List HostInput} (h : keepsOperands ins = true) (s : State) :
    (afterMoves s ins).operandView = s.operandView :=
  afterMoves_keeps_of_not_writes State.operandView (fun _ => rfl)
    (fun i s => (commandEffect_after i s).operandView_eq) h s

end ServedMoves

/-- Settles O36: the clean moves leave FRAME, of which the RD behind them answers byte `k`. -/
theorem cleanFetchReadsOneFrame : Obligations.CleanFetchReadsOneFrame := by
  intro s ins k hclean
  have hframe := afterMoves_frame hclean s
  have hrd : after (.rd (BitVec.ofNat 8 (0x20 + k.val))) (afterMoves s ins) =
      (afterMoves s ins).respondOk (s.frame[k].setWidth 32) :=
    ((afterMoves s ins).readCommand_regIndex params (.frame k)).trans (by rw [State.readReg, hframe]; rfl)
  refine ⟨_, serve_eq_afterMoves _ s, ?_⟩
  rw [afterMoves_append, afterMoves_requestsOf, afterAll, List.foldl_cons, List.foldl_nil, hrd]
  exact ⟨hframe, rfl, afterMoves_inputs s ins⟩

/-- Settles O37: each group outlives the moves that have none of its writers among them. -/
theorem otherMovesKeepResultsAndOperands : Obligations.OtherMovesKeepResultsAndOperands := fun s ins =>
  ⟨_, serve_eq_afterMoves ins s, fun h => (sameResults_iff ..).mpr (afterMoves_resultView h s),
    fun h => (sameOperands_iff ..).mpr (afterMoves_operandView h s)⟩

section ByteArrays
/-! ### Loading an array of byte registers (30_encoding.md R80) -/

/-- The array with the bytes of the list in its first places. -/
def overwrite {n : Nat} (l : List Byte) (f : Vector Byte n) : Vector Byte n :=
  Vector.ofFn fun j => if h : j.val < l.length then l[j.val] else f[j]

theorem getElem_overwrite {n : Nat} (l : List Byte) (f : Vector Byte n) (j : Nat) (hj : j < n) :
    (overwrite l f)[j] = if h : j < l.length then l[j] else f[j] :=
  Vector.getElem_ofFn hj

@[simp] theorem overwrite_nil {n : Nat} (f : Vector Byte n) : overwrite [] f = f :=
  Vector.ext fun j hj => getElem_overwrite [] f j hj

/-- One more byte goes to the next place. -/
theorem overwrite_concat {n : Nat} (l : List Byte) (c : Byte) (f : Vector Byte n) (h : l.length < n) :
    overwrite (l ++ [c]) f = (overwrite l f).set l.length c := by
  ext j hj : 1
  rw [getElem_overwrite, Vector.getElem_set, getElem_overwrite]
  by_cases hlast : l.length = j
  · simp [← hlast]
  · have hlt : j < (l ++ [c]).length ↔ j < l.length := by
      rw [List.length_append, List.length_singleton]
      omega
    simp only [hlt, if_neg hlast]
    split
    next hj' => exact List.getElem_append_left hj'
    next => rfl

/-- A list as long as the array leaves nothing of what stood there. -/
theorem overwrite_toList {n : Nat} (b f : Vector Byte n) : overwrite b.toList f = b := by
  ext j hj : 1
  rw [getElem_overwrite, dif_pos (by rwa [Vector.length_toList]), Vector.getElem_toList]

/-- The first bytes of the array are the list's own. -/
theorem take_toList_overwrite {n : Nat} (l : List Byte) (f : Vector Byte n) (h : l.length ≤ n) :
    (overwrite l f).toList.take l.length = l := by
  apply List.ext_getElem
  · simpa using h
  · intro j hj hj'
    rw [List.getElem_take, Vector.getElem_toList, getElem_overwrite, dif_pos hj']

@[simp] theorem trunc8_zext32 (c : Byte) : trunc8 (zext32 c) = c :=
  BitVec.setWidth_setWidth_of_le c (by omega)

/-- WR of a writable register as one record update. -/
theorem after_wrNamed (s : State) (v : Word32) {reg : Reg} (hrw : regAccess reg = .rw) :
    after (wrNamed reg v) s = (s.writeReg v reg).respondOk 0#32 :=
  s.writeCommand_regIndex v hrw

theorem afterAll_wrNamed_cons {s : State} (v : Word32) {reg : Reg} (hrw : regAccess reg = .rw)
    {cs : List Instr} : afterAll s (wrNamed reg v :: cs) = afterAll ((s.writeReg v reg).respondOk 0#32) cs :=
  congrArg (afterAll · cs) (after_wrNamed s v hrw)

/-- WRs to the registers of an array in ascending order overwrite it: `put f r` is the state in which the array
holds `f` and the latest response is `r`. -/
theorem afterAll_mapIdx_wr {n base : Nat} {put : Vector Byte n → Option Response → State}
    (hput : ∀ (i : Nat) (hi : i < n) f r (v : Word32), after (.wr (BitVec.ofNat 8 (base + i)) v) (put f r) =
      put (f.set i (trunc8 v)) (some ⟨0x00#8, 0#32⟩))
    (l : List Byte) (hl : l.length ≤ n) (f : Vector Byte n) (r : Option Response) :
    ∃ r', afterAll (put f r) (l.mapIdx fun i c => .wr (BitVec.ofNat 8 (base + i)) (zext32 c)) =
      put (overwrite l f) r' := by
  induction l using List.reverseRecOn with
  | nil => exact ⟨r, by simp [afterAll]⟩
  | append_singleton l c ih =>
    have hlt : l.length < n := by simpa using hl
    obtain ⟨r', hr'⟩ := ih hlt.le
    refine ⟨some ⟨0x00#8, 0#32⟩, ?_⟩
    rw [List.mapIdx_concat, afterAll_append, hr', overwrite_concat l c f hlt, afterAll, List.foldl_cons,
      List.foldl_nil, hput _ hlt, trunc8_zext32]

end ByteArrays

section LoadedFrame
/-! ### LDFRAME (30_encoding.md R80, 70_reset_and_hazards.md R165) -/

/-- LDFRAME of 32 bytes changes FRAME and the latest response alone. -/
theorem afterAll_ldframeCommands (s : State) (b : Frame) :
    ∃ r, afterAll s (ldframeCommands b.toList) = { s with frame := b, response := r } := by
  have hput (i : Nat) (hi : i < 32) (f : Frame) (r : Option Response) (v : Word32) :
      after (.wr (BitVec.ofNat 8 (0x20 + i)) v) { s with frame := f, response := r } =
        { s with frame := f.set i (trunc8 v), response := some ⟨0x00#8, 0#32⟩ } :=
    after_wrNamed _ v (reg := .frame ⟨i, hi⟩) rfl
  obtain ⟨r, hr⟩ := afterAll_mapIdx_wr hput b.toList b.length_toList.le s.frame s.response
  rw [overwrite_toList] at hr
  exact ⟨r, hr⟩

end LoadedFrame

/-- Settles O34: DECODE of the state in which LDFRAME has put the bytes into FRAME. -/
theorem loadedFrameDecodes : Obligations.LoadedFrameDecodes := by
  intro s b
  obtain ⟨r, hr⟩ := afterAll_ldframeCommands s b
  have hserve : serve (loadFrame b ++ requestsOf [.decode]) s =
      .next (({ s with frame := b, response := r } : State).decodeCommand params) := by
    rw [serve_eq_afterMoves, loadFrame, afterMoves_append, afterMoves_requestsOf, afterMoves_requestsOf, hr]
    rfl
  refine ⟨_, hserve, rfl, State.decodeCommand_resultRecord params _, ?len,
    ⟨rfl, rfl, rfl, rfl, rfl, rfl, rfl, rfl⟩, rfl, rfl⟩
  case len =>
    rw [State.decodeCommand_eq_answered]
    rfl

section BeaconAttempt
/-! ### One beacon attempt (30_encoding.md R80, 40_build.md R90) -/

variable (s : State) (seq : Byte) (text : List Byte) (radio : RadioState)

/-- LDRADIO changes the radio operands and the latest response alone. -/
theorem afterAll_ldradioCommands :
    afterAll s (ldradioCommands radio.freq (zext32 radio.bw) (zext32 radio.sf) (zext32 radio.cr)
      (zext32 radio.rssi)) =
    { s with
      freqIn := radio.freq, bwIn := radio.bw, sfIn := radio.sf, crIn := radio.cr, rssiIn := radio.rssi,
      response := some ⟨0x00#8, 0#32⟩ } := by
  rw [ldradioCommands, afterAll_wrNamed_cons _ rfl, afterAll_wrNamed_cons _ rfl, afterAll_wrNamed_cons _ rfl,
    afterAll_wrNamed_cons _ rfl, afterAll_wrNamed_cons _ rfl]
  simp only [State.writeReg, trunc8_zext32]
  rfl

/-- LDTEXT changes the text operands and the latest response alone; a byte behind the text stays. -/
theorem afterAll_ldtextCommands :
    ∃ r, afterAll s (ldtextCommands text) =
      { s with
        tlenIn := BitVec.ofNat 8 text.length, textIn := overwrite (text.take 16) s.textIn, response := r } := by
  have hput (i : Nat) (hi : i < 16) (f : Vector Byte 16) (r : Option Response) (v : Word32) :
      after (.wr (BitVec.ofNat 8 (0x10 + i)) v)
          { s with tlenIn := BitVec.ofNat 8 text.length, textIn := f, response := r } =
        { s with
          tlenIn := BitVec.ofNat 8 text.length, textIn := f.set i (trunc8 v),
          response := some ⟨0x00#8, 0#32⟩ } :=
    after_wrNamed _ v (reg := .textIn ⟨i, hi⟩) rfl
  rw [ldtextCommands, afterAll_wrNamed_cons _ rfl, State.writeReg, trunc8,
    BitVec.setWidth_ofNat_of_le (by omega)]
  exact afterAll_mapIdx_wr hput (text.take 16) (List.length_take_le ..) s.textIn _

/-- The state in which the BUILD of an attempt is served: the operands are those the host has loaded. -/
def State.loadedAttempt : State :=
  { s with
    seqIn := seq, freqIn := radio.freq, bwIn := radio.bw, sfIn := radio.sf, crIn := radio.cr,
    rssiIn := radio.rssi, tlenIn := BitVec.ofNat 8 text.length, textIn := overwrite (text.take 16) s.textIn,
    response := some ⟨0x00#8, 0#32⟩ }

/-- An attempt is BUILD of the loaded operands. -/
theorem serve_beaconAttempt : serve (beaconAttempt seq text radio) s =
    .next ((s.loadedAttempt seq text radio).buildCommand params) := by
  obtain ⟨r, hr⟩ := afterAll_ldtextCommands
    { s with
      freqIn := radio.freq, bwIn := radio.bw, sfIn := radio.sf, crIn := radio.cr, rssiIn := radio.rssi,
      response := some ⟨0x00#8, 0#32⟩ } text
  rw [serve_eq_afterMoves, beaconAttempt, afterMoves_requestsOf, afterAll_append, afterAll_append,
    afterAll_ldradioCommands, hr, beaconCommands, afterAll_wrNamed_cons _ rfl, State.writeReg, trunc8_zext32]
  rfl

variable {text}

theorem State.loadedAttempt_tlenIn (hlen : text.length ≤ 255) :
    (s.loadedAttempt seq text radio).tlenIn.toNat = text.length := by
  rw [State.loadedAttempt, BitVec.toNat_ofNat, Nat.mod_eq_of_lt (by omega)]

/-- The first bytes of the loaded text registers are the text, as far as there are registers. -/
theorem State.take_loadedAttempt_textIn :
    (s.loadedAttempt seq text radio).textIn.toList.take text.length = text.take 16 := by
  have hlen : (text.take 16).length = min 16 text.length := List.length_take
  have htake := take_toList_overwrite (text.take 16) s.textIn (by omega)
  by_cases hle : text.length ≤ 16
  · rwa [hlen, Nat.min_eq_right hle] at htake
  · rw [hlen, Nat.min_eq_left (by omega)] at htake
    rw [List.take_of_length_le (by rw [Vector.length_toList]; omega)]
    rwa [List.take_of_length_le (Vector.length_toList ..).le] at htake

/-- The operands that the host has loaded are what it means to send (70_reset_and_hazards.md R153). -/
theorem readyToBuild_loadedAttempt (hlen : text.length ≤ 255) :
    readyToBuild (s.loadedAttempt seq text radio) seq text radio = true := by
  have htext : holdsText (s.loadedAttempt seq text radio) text = true := by
    rw [holdsText, State.textLength, s.loadedAttempt_tlenIn seq radio hlen, s.take_loadedAttempt_textIn,
      beq_self_eq_true, beq_self_eq_true]
    rfl
  have hradio : holdsSnapshot (s.loadedAttempt seq text radio) radio = true := by
    simp [holdsSnapshot, State.loadedAttempt]
  have hseq : (s.loadedAttempt seq text radio).seqIn = seq := rfl
  simp only [readyToBuild, hseq, htext, hradio, beq_self_eq_true, Bool.and_self]

/-- Whether the operands are ready depends on the operands alone. -/
theorem readyToBuild_congr {t : State} (h : SameOperands t s) :
    readyToBuild t seq text radio = readyToBuild s seq text radio := by
  obtain ⟨hseq, hrssi, hbw, hsf, hcr, htlen, hfreq, htext⟩ := h
  simp only [readyToBuild, holdsText, holdsSnapshot, State.textLength, hseq, hrssi, hbw, hsf, hcr, htlen, hfreq,
    htext]

/-- A text of at most 15 bytes is the text that BUILD reads from the loaded operands. -/
theorem buildBeacon_loadedAttempt (hle : text.length ≤ 15) :
    buildBeacon params seq text radio =
      some (pack params.byteOrder ((s.loadedAttempt seq text radio).buildRecord params)) := by
  have htlen := s.loadedAttempt_tlenIn seq radio (by omega : text.length ≤ 255)
  have hbuild := (s.loadedAttempt seq text radio).buildBeacon_operands params (htlen.trans_le hle)
  rwa [htlen, s.take_loadedAttempt_textIn, List.take_of_length_le (by omega)] at hbuild

end BeaconAttempt

/-- Settles O35: the attempt is BUILD of the loaded operands, whose length decides between the frame that
`build_beacon` packs and PayloadTooLong. -/
theorem beaconAttemptRefinesBuildBeacon : Obligations.BeaconAttemptRefinesBuildBeacon := by
  intro s seq text radio hlen
  have hbuild := commandEffect_after .build (s.loadedAttempt seq text radio)
  have htlen := s.loadedAttempt_tlenIn seq radio hlen
  refine ⟨_, serve_beaconAttempt s seq text radio, ?ready, ?results, after_inputs .build _, ?frame⟩
  case ready =>
    have hsame := (sameOperands_iff ..).mpr (hbuild.operandView_eq rfl)
    exact (readyToBuild_congr _ seq radio hsame).trans (readyToBuild_loadedAttempt s seq radio hlen)
  case results => exact (sameResults_iff ..).mpr (hbuild.resultView_eq rfl)
  case frame =>
    by_cases hle : text.length ≤ 15
    · rw [buildBeacon_loadedAttempt s seq radio hle, State.buildCommand_of_le params _ (htlen.trans_le hle)]
      exact ⟨rfl, rfl, rfl, rfl⟩
    · have hnone : buildBeacon params seq text radio = none := dif_neg hle
      rw [hnone, State.buildCommand_of_gt params _ (by omega)]
      exact ⟨rfl, rfl, rfl, rfl⟩

section SequenceNumbers
/-! ### The sequence number of an attempt (70_reset_and_hazards.md R157, R158) -/

/-- Attempt `k` carries `SEQ_INIT + k` in 8 bits. -/
theorem seqOfAttempt_eq (seqInit : Byte) (k : Nat) : seqOfAttempt seqInit k = seqInit + BitVec.ofNat 8 k := by
  induction k with
  | zero => exact (BitVec.add_zero seqInit).symm
  | succ k ih => rw [seqOfAttempt, ih, seqNext, BitVec.add_assoc, BitVec.ofNat_add]

theorem toNat_seqOfAttempt (seqInit : Byte) (k : Nat) :
    (seqOfAttempt seqInit k).toNat = (seqInit.toNat + k) % 256 := by
  rw [seqOfAttempt_eq, BitVec.toNat_add, BitVec.toNat_ofNat, Nat.add_mod_mod]

theorem seqOfAttempt_add_256 (seqInit : Byte) (k : Nat) :
    seqOfAttempt seqInit (k + 256) = seqOfAttempt seqInit k := by
  apply BitVec.eq_of_toNat_eq
  rw [toNat_seqOfAttempt, toNat_seqOfAttempt]
  omega

end SequenceNumbers

/-- Settles O38: the number counts in 8 bits, and the attempt packs it at offset 12. -/
theorem sequenceNumbersAdvanceModulo256 : Obligations.SequenceNumbersAdvanceModulo256 := by
  refine fun seqInit => ⟨toNat_seqOfAttempt seqInit, seqOfAttempt_add_256 seqInit,
    fun s k text radio hle => ⟨_, serve_beaconAttempt s _ text radio, ?_⟩⟩
  have htlen := s.loadedAttempt_tlenIn (seqOfAttempt seqInit k) radio (by omega : text.length ≤ 255)
  simp only [State.buildCommand_frame_of_le params _ (htlen.trans_le hle)]
  exact getElem_pack _ _ 12 (by omega)

end Sys2Proof.Machine
